-- ==== Sys2Proof/Word.lean ====
section
/-! DEFINITION. The plainest types of the model: bytes of the wire formats, and the record numbers of the device. -/

namespace Sys2Proof

/-- A byte of a console transaction, a seat line character or a character of a board image. -/
abbrev Byte := BitVec 8

/-- A team number, 0 to 15 (00_scope, Conventions). -/
abbrev TeamNo := Fin 16

/-- A seat number, 0 to 127 (00_scope, Conventions). -/
abbrev SeatNo := Fin 128

/-- A seat line number, 0 to 3 (00_scope, Conventions). -/
abbrev LineNo := Fin 4

/-- A seat's local address on its line, 0 to 31 (R24). -/
abbrev LocalAddr := Fin 32

/-- A board: 0 for board A, 1 for board B (R160). -/
abbrev BoardNo := Fin 2

/-- The id of a working rule, 0 to 25 (R196). -/
abbrev RuleId := Fin 26

end Sys2Proof
end

