-- ==== Sys2Proof/Syntax.lean ====
section
/-! DEFINITION. The commands the block takes: one constructor of `Instr` for each row of spec/opcode_table.json; and
`Request`, the console requests as the port decodes them from the bytes of a request slot (R192). -/

namespace Sys2Proof

/-- A console request with its arguments as they stand on the wire (R192). Arguments are unchecked bytes and 24-bit
fields: the owning rules judge their ranges. -/
inductive Request where
  | keepalive
  | readNotices
  | clearNotices (mask : BitVec 24)
  | resetSession
  | enrolTeam (team : Byte) (score : BitVec 24) (label : List Byte)
  | renameTeam (team : Byte) (label : List Byte)
  | benchTeam (team : Byte)
  | recallTeam (team : Byte)
  | retireTeam (team : Byte)
  | purgeTeam (team : Byte)
  | readTeam (team : Byte)
  | adjustScore (team : Byte) (delta : BitVec 24)
  | setScore (team : Byte) (value : BitVec 24)
  | bindSeat (seat team : Byte)
  | unbindSeat (seat : Byte)
  | readSeat (seat : Byte)
  | readRoll (line : Byte)
  | readLine (line : Byte)
  | openRound (kind : Byte) (window : BitVec 24) (choices key : Byte)
  | closeRound
  | abandonRound
  | postKey (choice : Byte)
  | judge (verdict seat : Byte)
  | readRound
  | readLadder (start : Byte)
  | readSheet (line : Byte)
  | readStandings (first count : Byte)
  | setBoard (board source select console hold blank : Byte)
  | setMessage (board : Byte) (text : List Byte)
  | readBoard (board : Byte)
  | setRule (id : Byte) (value : BitVec 24)
  | readRule (id : Byte)
  | storeRules
  | recallRules
deriving DecidableEq, Repr

/-- The commands of the block, one constructor per row of spec/opcode_table.json, in the table's order.

The 34 request rows stand for the console's sending of that request in one write transaction to the device's address;
`check` says whether the request carries the check flag and its right check byte (R177; DEDUCED, log entry 6). Any
other bytes, a wrong check among them, are sent with `consoleWrite` or `requestFramingRefusal`. The rows of an
internal event (a compare, a timer, the end of a transfer) stand for the instant at which that event is taken; such a
row acts only when the state is one in which the event is raised (log entry 4), and how much time has passed is no
part of the state (log entry 9). -/
inductive Instr where
  /-- POWER_ON (R204). -/
  | powerOn
  /-- POWER_LOSS (R202, R203). -/
  | powerLoss
  /-- RESET_PIN_LOW (R204). -/
  | resetPinLow
  /-- START_UP (R204), with the levels standing on ADDR1 and ADDR0. -/
  | startUp (addr1 addr0 : Bool)
  /-- START_UP_END (R204). -/
  | startUpEnd
  /-- CONSOLE_WRITE (R176): the seven address bits and every whole byte the console sends after the address byte. -/
  | consoleWrite (address : BitVec 7) (bytes : List Byte)
  /-- CONSOLE_READ (R181, R182): the seven address bits, and for each whole byte clocked after the address byte whether the
  console acknowledged it. -/
  | consoleRead (address : BitVec 7) (acks : List Bool)
  /-- REQUEST_FRAMING_REFUSAL (R178): a request, given by its bytes, that the port refuses at framing. -/
  | requestFramingRefusal (bytes : List Byte)
  /-- KEEPALIVE (R187). -/
  | keepalive (check : Bool)
  /-- READ_NOTICES (R185). -/
  | readNotices (check : Bool)
  /-- CLEAR_NOTICES (R186). -/
  | clearNotices (check : Bool) (mask : BitVec 24)
  /-- RESET_SESSION (R205). -/
  | resetSession (check : Bool)
  /-- ENROL_TEAM (R11). -/
  | enrolTeam (check : Bool) (team : Byte) (score : BitVec 24) (label : List Byte)
  /-- RENAME_TEAM (R13). -/
  | renameTeam (check : Bool) (team : Byte) (label : List Byte)
  /-- BENCH_TEAM (R14). -/
  | benchTeam (check : Bool) (team : Byte)
  /-- RECALL_TEAM (R16). -/
  | recallTeam (check : Bool) (team : Byte)
  /-- RETIRE_TEAM (R17). -/
  | retireTeam (check : Bool) (team : Byte)
  /-- PURGE_TEAM (R20). -/
  | purgeTeam (check : Bool) (team : Byte)
  /-- READ_TEAM (R22). -/
  | readTeam (check : Bool) (team : Byte)
  /-- ADJUST_SCORE (R151). -/
  | adjustScore (check : Bool) (team : Byte) (delta : BitVec 24)
  /-- SET_SCORE (R152). -/
  | setScore (check : Bool) (team : Byte) (value : BitVec 24)
  /-- BIND_SEAT (R35). -/
  | bindSeat (check : Bool) (seat team : Byte)
  /-- UNBIND_SEAT (R37). -/
  | unbindSeat (check : Bool) (seat : Byte)
  /-- READ_SEAT (R39). -/
  | readSeat (check : Bool) (seat : Byte)
  /-- READ_ROLL (R40). -/
  | readRoll (check : Bool) (line : Byte)
  /-- READ_LINE (R62). -/
  | readLine (check : Bool) (line : Byte)
  /-- OPEN_ROUND (R78, R79). -/
  | openRound (check : Bool) (kind : Byte) (window : BitVec 24) (choices key : Byte)
  /-- CLOSE_ROUND (R83). -/
  | closeRound (check : Bool)
  /-- ABANDON_ROUND (R91). -/
  | abandonRound (check : Bool)
  /-- POST_KEY (R89). -/
  | postKey (check : Bool) (choice : Byte)
  /-- JUDGE (R110). -/
  | judge (check : Bool) (verdict seat : Byte)
  /-- READ_ROUND (R96). -/
  | readRound (check : Bool)
  /-- READ_LADDER (R121). -/
  | readLadder (check : Bool) (start : Byte)
  /-- READ_SHEET (R135). -/
  | readSheet (check : Bool) (line : Byte)
  /-- READ_STANDINGS (R157). -/
  | readStandings (check : Bool) (first count : Byte)
  /-- SET_BOARD (R160). -/
  | setBoard (check : Bool) (board source select console hold blank : Byte)
  /-- SET_MESSAGE (R161). -/
  | setMessage (check : Bool) (board : Byte) (text : List Byte)
  /-- READ_BOARD (R173). -/
  | readBoard (check : Bool) (board : Byte)
  /-- SET_RULE (R197). -/
  | setRule (check : Bool) (id : Byte) (value : BitVec 24)
  /-- READ_RULE (R199). -/
  | readRule (check : Bool) (id : Byte)
  /-- STORE_RULES (R201). -/
  | storeRules (check : Bool)
  /-- RECALL_RULES (R203). -/
  | recallRules (check : Bool)
  /-- STORE_COMPLETE (R202). -/
  | storeComplete
  /-- RECALL_COMPLETE (R203). -/
  | recallComplete
  /-- WATCHDOG_EXPIRY (R189). -/
  | watchdogExpiry
  /-- REVEAL_LEVEL_TAKEN (R162). -/
  | revealLevelTaken
  /-- SEAT_FRAME (R46): the fourth character of a seat frame ends on a line. -/
  | seatFrame (line : LineNo) (char : Byte)
  /-- GAP_LIMIT (R45). -/
  | gapLimit (line : LineNo)
  /-- SEAT_TABLE_TAKE (R28). -/
  | seatTableTake (line : LineNo)
  /-- HOUSEKEEPING_EXPIRY (R27, R74). -/
  | housekeepingExpiry
  /-- DOWNSTREAM_FRAME_END (R60). -/
  | downstreamFrameEnd (line : LineNo)
  /-- ROUND_CLOCK_STEP (R64). -/
  | roundClockStep
  /-- CLOCK_SATURATION (R67). -/
  | clockSaturation
  /-- WINDOW_END (R82). -/
  | windowEnd
  /-- SETTLING_END (R85, R87). -/
  | settlingEnd
  /-- CALL (R107). -/
  | call
  /-- JUDGE_DEADLINE (R116). -/
  | judgeDeadline
  /-- TRANSFER_END (R166). -/
  | transferEnd (board : BoardNo)
  /-- START_EDGE (R42): a fall of SLn_RX; `falseStart` says that the wire is high again at the middle of the start bit. -/
  | startEdge (line : LineNo) (falseStart : Bool)
  /-- CHARACTER_RECEIVED (R44): a character ends on a line. -/
  | characterReceived (line : LineNo) (char : Byte)
  /-- REVEAL_PIN_CHANGE (R162): the level on the REVEAL pin becomes `level`. -/
  | revealPinChange (level : Bool)
deriving DecidableEq, Repr

/-- The console request that a request row sends, with its check flag; none for the other rows. -/
def Instr.request? : Instr → Option (Bool × Request)
  | .keepalive c => some (c, .keepalive)
  | .readNotices c => some (c, .readNotices)
  | .clearNotices c m => some (c, .clearNotices m)
  | .resetSession c => some (c, .resetSession)
  | .enrolTeam c t v l => some (c, .enrolTeam t v l)
  | .renameTeam c t l => some (c, .renameTeam t l)
  | .benchTeam c t => some (c, .benchTeam t)
  | .recallTeam c t => some (c, .recallTeam t)
  | .retireTeam c t => some (c, .retireTeam t)
  | .purgeTeam c t => some (c, .purgeTeam t)
  | .readTeam c t => some (c, .readTeam t)
  | .adjustScore c t d => some (c, .adjustScore t d)
  | .setScore c t v => some (c, .setScore t v)
  | .bindSeat c i t => some (c, .bindSeat i t)
  | .unbindSeat c i => some (c, .unbindSeat i)
  | .readSeat c i => some (c, .readSeat i)
  | .readRoll c n => some (c, .readRoll n)
  | .readLine c n => some (c, .readLine n)
  | .openRound c k w ch key => some (c, .openRound k w ch key)
  | .closeRound c => some (c, .closeRound)
  | .abandonRound c => some (c, .abandonRound)
  | .postKey c k => some (c, .postKey k)
  | .judge c v i => some (c, .judge v i)
  | .readRound c => some (c, .readRound)
  | .readLadder c p => some (c, .readLadder p)
  | .readSheet c n => some (c, .readSheet n)
  | .readStandings c p k => some (c, .readStandings p k)
  | .setBoard c b so se co ho bl => some (c, .setBoard b so se co ho bl)
  | .setMessage c b t => some (c, .setMessage b t)
  | .readBoard c b => some (c, .readBoard b)
  | .setRule c i v => some (c, .setRule i v)
  | .readRule c i => some (c, .readRule i)
  | .storeRules c => some (c, .storeRules)
  | .recallRules c => some (c, .recallRules)
  | .powerOn | .powerLoss | .resetPinLow | .startUp .. | .startUpEnd | .consoleWrite .. | .consoleRead ..
  | .requestFramingRefusal _ | .storeComplete | .recallComplete | .watchdogExpiry | .revealLevelTaken | .seatFrame ..
  | .gapLimit _ | .seatTableTake _ | .housekeepingExpiry | .downstreamFrameEnd _ | .roundClockStep | .clockSaturation
  | .windowEnd | .settlingEnd | .call | .judgeDeadline | .transferEnd _ | .startEdge .. | .characterReceived ..
  | .revealPinChange _ => none

end Sys2Proof
end

