-- ==== Sys2Proof/Decode.lean ====
section
/-! DEFINITION. The wire formats of the console port: byte order (R191), the CRC-8 (R177), the request codes and
argument layouts, encoded and decoded (R192), and the address byte (R175). And `decodeTableWord`, over the rows of
spec/opcode_table.json that give bits: the table gives no row any bits. -/

namespace Sys2Proof

/-- A byte of a number below 256 (larger numbers wrap). -/
def byte (n : Nat) : Byte := BitVec.ofNat 8 n

/-- A 24-bit field, least significant byte first (R191). -/
def le24 (v : BitVec 24) : List Byte := [v.extractLsb' 0 8, v.extractLsb' 8 8, v.extractLsb' 16 8]

/-- The 24-bit field that three bytes hold, least significant byte first (R191). -/
def ofLe24 (a b c : Byte) : BitVec 24 := c ++ b ++ a

/-- An unsigned number as a 24-bit field. -/
def le24Nat (n : Nat) : List Byte := le24 (BitVec.ofNat 24 n)

/-- A signed number as a 24-bit two's complement field (R191). -/
def le24Int (v : Int) : List Byte := le24 (BitVec.ofInt 24 v)

/-- An unsigned number as a 16-bit field, least significant byte first (R191). -/
def le16Nat (n : Nat) : List Byte := [byte n, byte (n / 256)]

/-- A signed number as a 16-bit two's complement field (R191). -/
def le16Int (v : Int) : List Byte := let w := BitVec.ofInt 16 v; [w.extractLsb' 0 8, w.extractLsb' 8 8]

/-- A flag as 0 or 1 (R191). -/
def flag (b : Bool) : Nat := if b then 1 else 0

/-- One shift of the CRC-8 with polynomial x^8 + x^2 + x + 1 (R177, R46). -/
def crcShift (c : Byte) : Byte := if c.msb then (c <<< 1) ^^^ 0x07#8 else c <<< 1

/-- The CRC-8 after one more byte, taken most significant bit first. -/
def crcByte (c b : Byte) : Byte :=
  crcShift (crcShift (crcShift (crcShift (crcShift (crcShift (crcShift (crcShift (c ^^^ b))))))))

/-- The CRC-8 of a run of bytes, initial value 0x00 (R177, R46, R200). -/
def crc8 (bytes : List Byte) : Byte := bytes.foldl crcByte 0#8

/-- The low seven bits of the CRC-8, which close a seat line frame (R46, R58). -/
def crc7 (bytes : List Byte) : Byte := crc8 bytes &&& 0x7F#8

/-- The address byte: seven address bits above the direction bit, 0 for a write and 1 for a read (R175). -/
def addressByte (address : BitVec 7) (read : Bool) : Byte := address ++ BitVec.ofBool read

/-- The request code of R192. -/
def Request.code : Request → Byte
  | .keepalive => 0x01#8
  | .readNotices => 0x02#8
  | .clearNotices _ => 0x03#8
  | .resetSession => 0x04#8
  | .enrolTeam .. => 0x08#8
  | .renameTeam .. => 0x09#8
  | .benchTeam _ => 0x0A#8
  | .recallTeam _ => 0x0B#8
  | .retireTeam _ => 0x0C#8
  | .purgeTeam _ => 0x0D#8
  | .adjustScore .. => 0x0E#8
  | .setScore .. => 0x0F#8
  | .readTeam _ => 0x10#8
  | .bindSeat .. => 0x14#8
  | .unbindSeat _ => 0x15#8
  | .readSeat _ => 0x16#8
  | .readRoll _ => 0x17#8
  | .readLine _ => 0x18#8
  | .openRound .. => 0x1C#8
  | .closeRound => 0x1D#8
  | .abandonRound => 0x1E#8
  | .postKey _ => 0x1F#8
  | .judge .. => 0x20#8
  | .readRound => 0x21#8
  | .readLadder _ => 0x22#8
  | .readSheet _ => 0x23#8
  | .readStandings .. => 0x28#8
  | .setBoard .. => 0x29#8
  | .setMessage .. => 0x2A#8
  | .readBoard _ => 0x2B#8
  | .setRule .. => 0x30#8
  | .readRule _ => 0x31#8
  | .storeRules => 0x32#8
  | .recallRules => 0x33#8

/-- The argument bytes of a request, in the order of R192. -/
def Request.arguments : Request → List Byte
  | .clearNotices m => le24 m
  | .enrolTeam t v label => t :: (le24 v ++ label)
  | .renameTeam t label => t :: label
  | .benchTeam t | .recallTeam t | .retireTeam t | .purgeTeam t | .readTeam t => [t]
  | .adjustScore t v | .setScore t v => t :: le24 v
  | .bindSeat i t => [i, t]
  | .unbindSeat i | .readSeat i => [i]
  | .readRoll n | .readLine n | .readSheet n => [n]
  | .openRound k w ch key => k :: (le24 w ++ [ch, key])
  | .postKey k => [k]
  | .judge v i => [v, i]
  | .readLadder p => [p]
  | .readStandings p k => [p, k]
  | .setBoard b so se co ho bl => [b, so, se, co, ho, bl]
  | .setMessage b text => b :: text
  | .readBoard b => [b]
  | .setRule i v => i :: le24 v
  | .readRule i => [i]
  | .keepalive | .readNotices | .resetSession | .closeRound | .abandonRound | .readRound | .storeRules
  | .recallRules => []

/-- A request with no argument. -/
def noArguments (r : Request) : List Byte → Option Request
  | [] => some r
  | _ => none

/-- A request with one argument byte. -/
def oneByte (f : Byte → Request) : List Byte → Option Request
  | [a] => some (f a)
  | _ => none

/-- A request with two argument bytes. -/
def twoBytes (f : Byte → Byte → Request) : List Byte → Option Request
  | [a, b] => some (f a b)
  | _ => none

/-- A request with a byte and a 24-bit field. -/
def byteAndField (f : Byte → BitVec 24 → Request) : List Byte → Option Request
  | [x, a, b, c] => some (f x (ofLe24 a b c))
  | _ => none

/-- A request with one byte, then a text of at most `limit` characters. -/
def byteAndText (limit : Nat) (f : Byte → List Byte → Request) : List Byte → Option Request
  | x :: text => if text.length ≤ limit then some (f x text) else none
  | _ => none

/-- CLEAR NOTICES: a mask. -/
def decodeMask : List Byte → Option Request
  | [a, b, c] => some (.clearNotices (ofLe24 a b c))
  | _ => none

/-- ENROL TEAM: a team, a score and a label of at most 8 characters. -/
def decodeEnrol : List Byte → Option Request
  | t :: a :: b :: c :: label => if label.length ≤ 8 then some (.enrolTeam t (ofLe24 a b c) label) else none
  | _ => none

/-- OPEN ROUND: a kind, a window, the choices and the key. -/
def decodeOpen : List Byte → Option Request
  | [k, a, b, c, ch, key] => some (.openRound k (ofLe24 a b c) ch key)
  | _ => none

/-- SET BOARD: six bytes. -/
def decodeBoard : List Byte → Option Request
  | [b, so, se, co, ho, bl] => some (.setBoard b so se co ho bl)
  | _ => none

/-- The request of a code and its argument bytes: none when the code is not a request code of R192, or the argument
length is not one that R192 lists for it. -/
def decodeRequest (code : Nat) (arguments : List Byte) : Option Request :=
  match code with
  | 0x01 => noArguments .keepalive arguments
  | 0x02 => noArguments .readNotices arguments
  | 0x03 => decodeMask arguments
  | 0x04 => noArguments .resetSession arguments
  | 0x08 => decodeEnrol arguments
  | 0x09 => byteAndText 8 .renameTeam arguments
  | 0x0A => oneByte .benchTeam arguments
  | 0x0B => oneByte .recallTeam arguments
  | 0x0C => oneByte .retireTeam arguments
  | 0x0D => oneByte .purgeTeam arguments
  | 0x0E => byteAndField .adjustScore arguments
  | 0x0F => byteAndField .setScore arguments
  | 0x10 => oneByte .readTeam arguments
  | 0x14 => twoBytes .bindSeat arguments
  | 0x15 => oneByte .unbindSeat arguments
  | 0x16 => oneByte .readSeat arguments
  | 0x17 => oneByte .readRoll arguments
  | 0x18 => oneByte .readLine arguments
  | 0x1C => decodeOpen arguments
  | 0x1D => noArguments .closeRound arguments
  | 0x1E => noArguments .abandonRound arguments
  | 0x1F => oneByte .postKey arguments
  | 0x20 => twoBytes .judge arguments
  | 0x21 => noArguments .readRound arguments
  | 0x22 => oneByte .readLadder arguments
  | 0x23 => oneByte .readSheet arguments
  | 0x28 => twoBytes .readStandings arguments
  | 0x29 => decodeBoard arguments
  | 0x2A => byteAndText 32 .setMessage arguments
  | 0x2B => oneByte .readBoard arguments
  | 0x30 => byteAndField .setRule arguments
  | 0x31 => oneByte .readRule arguments
  | 0x32 => noArguments .storeRules arguments
  | 0x33 => noArguments .recallRules arguments
  | _ => none

/-- The two header bytes and the arguments of a request: the check flag in the top bit of header byte 0 above the code,
then the argument length (R176). -/
def Request.body (check : Bool) (r : Request) : List Byte :=
  (if check then r.code ||| 0x80#8 else r.code) :: byte r.arguments.length :: r.arguments

/-- The bytes of a request's write transaction after the address byte, closed by the check byte over the address byte,
the headers and the arguments when the check flag is set (R176, R177). -/
def Request.bytes (address : BitVec 7) (check : Bool) (r : Request) : List Byte :=
  r.body check ++ (if check then [crc8 (addressByte address false :: r.body check)] else [])

/-- The command that a word spells by the bits of spec/opcode_table.json. The table gives bits to no row, so no word
spells a command (log entry 20). -/
def decodeTableWord (_nbits _w : Nat) : Option Instr := none

end Sys2Proof
end

