-- ==== Sys2Proof/Config.lean ====
section
/-! DEFINITION. The free values of the model: constants with no body, so that no proof can rest on what they are. -/

namespace Sys2Proof

/-- FREE VALUE (log entry 7). The 26 values that an abandoned store leaves in the nonvolatile rule store. R202 says only
that the check is left bad, so nothing constrains the values. -/
opaque Config.tornValues : Nat → Vector (BitVec 24) 26

/-- FREE VALUE (log entry 7). The check byte that an abandoned store leaves, among the bytes that are bad for the values
left (R202). -/
opaque Config.tornCheck : Nat → Byte

/-- FREE VALUE (log entry 8). When the count is to rise while an event of the Round Controller and an event of the Claim
Ladder are both still untaken at the standing count, which owner takes its event first: R69 lets them be taken in either
order. -/
opaque Config.ladderFirst : Nat → Bool

end Sys2Proof
end

