-- ==== Sys2Proof/Machine/State.lean ====
section
/-! DEFINITION. The state of the device as plain data, the reasons a step could stop, and the state right after reset. -/

namespace Sys2Proof.Machine

/-! ## Team Table (01_team_records) -/

/-- The states of a team (R7). -/
inductive TeamState where
  | free | active | benched | retired
deriving DecidableEq, Repr

/-- A team record (R1). The member and present counts are derived from the Seat Table (R3), and so stand there only. -/
structure Team where
  state : TeamState
  /-- 0 to 8 printable characters; the empty label is the absent one. -/
  label : List Byte
  score : Int
  streak : Nat
  lastAward : Option Int
  locked : Bool
  rank : Option Nat
deriving DecidableEq, Repr

/-- The team record after power-on, RESET# and RESET SESSION (R6). -/
def Team.initial : Team :=
  { state := .free, label := [], score := 0, streak := 0, lastAward := none, locked := false, rank := none }

/-! ## Seat Table (02_seat_records) -/

/-- The presence of a seat (R23). -/
inductive Presence where
  | absent | present | silent
deriving DecidableEq, Repr

/-- The lamp of a seat (R23). -/
inductive Lamp where
  | idle | answered | wait | called | locked | right | wrong
deriving DecidableEq, Repr

/-- A seat record (R23). -/
structure Seat where
  presence : Presence
  /-- The silence countdown, 0 to 600 tenths of a second. -/
  countdown : Nat
  team : Option TeamNo
  locked : Bool
  lamp : Lamp
deriving DecidableEq, Repr

/-- The seat record after power-on and RESET# (R25). -/
def Seat.initial : Seat :=
  { presence := .absent, countdown := 0, team := none, locked := false, lamp := .idle }

/-! ## Seat Line Units (03_seat_lines) -/

/-- The receiver of a line (R42): hunting for a start edge, or receiving a character whose start edge recorded the round
clock's value and whether the clock stood stopped (R50). -/
inductive Receiver where
  | hunting
  | receiving (clock : Nat) (stopped : Bool)
deriving DecidableEq, Repr

/-- A partial frame of 1 to 3 characters, lead first, with the capture value and stopped mark of its lead character (R44,
R50). -/
structure PartialFrame where
  characters : List Byte
  capture : Nat
  stopped : Bool
deriving DecidableEq, Repr

/-- The kinds of a good seat frame (R46). -/
inductive FrameKind where
  | checkIn | press | leave
deriving DecidableEq, Repr

/-- A good seat frame in a receive queue (R51). -/
structure SeatFrame where
  seat : SeatNo
  kind : FrameKind
  key : Nat
  age : Nat
  capture : Nat
  stopped : Bool
deriving DecidableEq, Repr

/-- The flow frames (R58). -/
inductive Flow where
  | hold | go
deriving DecidableEq, Repr

/-- The mark frames (R58). -/
inductive Mark where
  | openBuzz
  | openPoll (choices : Nat)
  | closed
deriving DecidableEq, Repr

/-- A mark or lamp entry of an outbound queue (R59). -/
inductive OutEntry where
  | lamp (addr : LocalAddr) (value : Lamp)
  | mark (value : Mark)
deriving DecidableEq, Repr

/-- A downstream frame (R58). -/
inductive DownFrame where
  | lamp (addr : LocalAddr) (value : Lamp)
  | mark (value : Mark)
  | flow (value : Flow)
deriving DecidableEq, Repr

/-- The state of one Seat Line Unit (R41), with the receiver of R42. The outbound queue's one flow entry, always taken
first (R60), stands apart from the mark and lamp entries, which stand in their positions, earliest first. -/
structure Line where
  receiver : Receiver
  assembler : Option PartialFrame
  /-- The receive queue, oldest first, at most 16 frames. -/
  queue : List SeatFrame
  /-- The flow state: HELD or NORMAL. -/
  held : Bool
  rehold : Nat
  flow : Option Flow
  entries : List OutEntry
  /-- The transmitter: the frame in flight, or idle. -/
  sending : Option DownFrame
deriving DecidableEq, Repr

/-- A line unit at its power-on values, before start-up queues its CLOSED mark (R41, R204). -/
def Line.initial : Line :=
  { receiver := .hunting, assembler := none, queue := [], held := false, rehold := 0, flow := none, entries := [],
    sending := none }

/-! ## Round Clock (04_round_clock) -/

/-- The round counter, its running flag and its four compares, each armed with a target or disarmed (R64, R69). The
judge-deadline target is the round record's judge deadline (R73, R75), held once. -/
structure Clock where
  count : Nat
  running : Bool
  windowEnd : Option Nat
  settlingEnd : Option Nat
  call : Option Nat
  judgeDeadline : Option Nat
deriving DecidableEq, Repr

/-- The clock after every reset (R64). -/
def Clock.initial : Clock :=
  { count := 0, running := false, windowEnd := none, settlingEnd := none, call := none, judgeDeadline := none }

/-! ## Round Controller (05_rounds) -/

/-- The states of the round (R75). -/
inductive RoundState where
  | idle | opened | settling | draining | keywait | closed
deriving DecidableEq, Repr

/-- The eleven rules that a round copies at its open (R80). -/
structure RuleCopy where
  buzzRight : Nat
  buzzWrong : Nat
  pollBase : Nat
  pollSpeed : Nat
  pollWrong : Nat
  streakCap : Nat
  callSettle : Nat
  judgeWindow : Nat
  earlyPolicy : Nat
  timeoutAs : Nat
  answerLock : Nat
deriving DecidableEq, Repr

/-- The kind of a round, with the two fields that only a POLL round has (R75). -/
inductive RoundKind where
  | buzz
  | poll (choices : Nat) (key : Option Nat)
deriving DecidableEq, Repr

/-- The fields of the round record that are absent in IDLE alone (R75). -/
structure RoundBody where
  kind : RoundKind
  window : Nat
  closeInstant : Nat
  copy : RuleCopy
deriving DecidableEq, Repr

/-- The outcome of a closed round (R75, R94). -/
inductive RoundOutcome where
  | won (team : TeamNo) (seat : SeatNo)
  | noWinner
  | scored
  | abandoned
deriving DecidableEq, Repr

/-- The round record (R75), but for the judge deadline, which the clock's compare holds. -/
structure Round where
  state : RoundState
  body : Option RoundBody
  outcome : Option RoundOutcome
  tieStart : TeamNo
deriving DecidableEq, Repr

/-- The round record after every reset (R76). -/
def Round.initial : Round := { state := .idle, body := none, outcome := none, tieStart := 0 }

/-- A claim on the Claim Ladder (R97). -/
structure Claim where
  team : TeamNo
  seat : SeatNo
  offset : Nat
  called : Bool
  overtaken : Bool
deriving DecidableEq, Repr

/-- An entry of the Response Sheet (R122). -/
structure SheetEntry where
  choice : Nat
  offset : Nat
  stale : Bool
deriving DecidableEq, Repr

/-! ## Board Drivers (09_standings_and_boards) -/

/-- The sources and effective modes of a board (R159, R163). -/
inductive BoardMode where
  | live | hold | message | dark
deriving DecidableEq, Repr

/-- The kinds of image a driver shifts out (R158); NONE is the absence of one. -/
inductive ImageKind where
  | repaint | message | blank
deriving DecidableEq, Repr

/-- An image in flight: its kind, its 256 characters and, for a repaint, its team order, all fixed at its start (R165,
R168). -/
structure Transfer where
  kind : ImageKind
  image : List Byte
  order : List TeamNo
deriving DecidableEq, Repr

/-- A board driver (R158), and what its board shows. `shown` is the MODEL's own field (log entry 16): the last image
latched into the board, of which the device keeps no record (R158). -/
structure Board where
  message : List Byte
  mode : BoardMode
  inFlight : Option Transfer
  pending : Option ImageKind
  lastLive : List TeamNo
  orderVoid : Bool
  shown : Option (List Byte)
deriving DecidableEq, Repr

/-- A driver at its power-on values (R158). Its effective mode is resolved at start-up (R172); the spec gives none
before, and HOLD, which shifts nothing, stands there (DESIGN CHOICE, log entry 2). -/
def Board.initial : Board :=
  { message := List.replicate 32 0x20#8, mode := .hold, inFlight := none, pending := none, lastLive := [],
    orderVoid := false, shown := none }

/-! ## Rule Memory (11_rule_memory_and_start_up) -/

/-- The working rules by id (R196). -/
abbrev Rules := Vector Nat 26

/-- The defaults of the working rules (R196). -/
def Rules.default : Rules :=
  #v[100, 50, 100, 50, 0, 4, 64, 100000, 0, 1, 1, 100, 32, 32, 32, 32, 16, 12, 4, 1, 0, 2, 0x28, 0x0C, 0xFFFFFF, 0]

/-- The nonvolatile rule store: 26 values and their check byte (R200). -/
structure RuleStore where
  values : Vector (BitVec 24) 26
  check : Byte
deriving DecidableEq, Repr

/-! ## Console Port (10_console_port) -/

/-- A request slot: the bytes stored and the note of how the write ended (R174, R176). -/
structure RequestSlot where
  bytes : List Byte
  truncated : Bool
  overlength : Bool
deriving DecidableEq, Repr

/-- The watchdog; RUNNING with the interval it times, in milliseconds (R188). -/
inductive Watchdog where
  | unarmed
  | running (interval : Nat)
  | expired
deriving DecidableEq, Repr

/-- The MODEL's own record (log entry 16) of what the device drove onto the bus in the last transaction of the console:
whether it acknowledged the address byte and each byte written, and the bytes it shifted out (R175, R176, R181). -/
structure BusRecord where
  acknowledged : List Bool
  shifted : List Byte
deriving DecidableEq, Repr

/-- The REVEAL input: the level on the pin, and the level as last taken (R162). In operation the 10 ms of a new level run
exactly while the two differ. -/
structure Reveal where
  pin : Bool
  taken : Bool
deriving DecidableEq, Repr

/-- Where the device stands between power and operation (R204): without power; at rest, RESET# low or power not yet
stable; in the 5 ms of start-up; in operation. -/
inductive Phase where
  | off | rest | startUp | running
deriving DecidableEq, Repr

/-! ## The whole device -/

/-- The state of the device, and the queue of the commands that wait. -/
structure State where
  /-- The MODEL's queue of commands, first in, first out (log entries 5 and 20). -/
  pending : List Instr
  /-- The MODEL's counter, to which the free values of Config are applied (log entry 16). -/
  freeIndex : Nat
  phase : Phase
  teams : Vector Team 16
  seats : Vector Seat 128
  lines : Vector Line 4
  clock : Clock
  round : Round
  /-- The Claim Ladder, head first (R98). -/
  ladder : List Claim
  /-- The Response Sheet: each seat's entry, if any (R122). -/
  sheet : Vector (Option SheetEntry) 128
  /-- The Standings list, position 1 first (R153). -/
  standings : List TeamNo
  boards : Vector Board 2
  rules : Rules
  store : RuleStore
  /-- The store-in-progress flag, with the snapshot being written (R201). -/
  storing : Option (Vector (BitVec 24) 26)
  /-- The recall-in-progress flag (R203). -/
  recalling : Bool
  /-- The request slots, oldest first, at most two (R174). -/
  requests : List RequestSlot
  /-- The check flag of the request in process, when there is one (R174, R203). -/
  inProcess : Option Bool
  /-- The ready answers, oldest first; with the slot of the request in process at most two (R174). -/
  answers : List (List Byte)
  /-- The notice word (R183, R193). -/
  notices : BitVec 24
  watchdog : Watchdog
  /-- The CONSOLE_LOST condition (R189). -/
  consoleLost : Bool
  targetAddress : BitVec 7
  reveal : Reveal
  bus : BusRecord
deriving DecidableEq, Repr

/-- The reasons a step could stop with a fault. There is none: the spec gives every command of the table an effect in
every state, and an event that the state does not raise has no effect (log entry 4). -/
inductive Fault where
deriving DecidableEq, Repr

/-- The reasons a step could be refused. -/
inductive Refusal where
  /-- The command has no meaning in the model yet: raised by `exec` alone, for an arm not yet modelled (safe). No arm
  raises it now. -/
  | notModelled (mnemonic : String)
deriving DecidableEq, Repr

/-- The blocks at their power-on values (R204, step 2), with the working rules, target address and REVEAL level that
start-up reads, and what start-up does not touch: the rule store, the boards' pictures, the command queue. -/
def State.powerOnValues (rules : Rules) (store : RuleStore) (address : BitVec 7) (revealLevel : Bool)
    (pending : List Instr) (freeIndex : Nat) (boards : Vector Board 2) (notices : BitVec 24) (bus : BusRecord) : State :=
  { pending, freeIndex, phase := .startUp, teams := Vector.replicate 16 Team.initial,
    seats := Vector.replicate 128 Seat.initial, lines := Vector.replicate 4 Line.initial, clock := Clock.initial,
    round := Round.initial, ladder := [], sheet := Vector.replicate 128 none, standings := [], boards, rules, store,
    storing := none, recalling := false, requests := [], inProcess := none, answers := [], notices,
    watchdog := .unarmed, consoleLost := false, targetAddress := address,
    reveal := { pin := revealLevel, taken := revealLevel }, bus }

/-- The 256 characters of an empty board (R170). -/
def blankImage : List Byte := List.replicate 256 0x20#8

/-- The notice word with RULES_DEFAULTED alone (R193). -/
def rulesDefaultedOnly : BitVec 24 := 0x008000#24

/-- The machine right after reset: power has come, the rule store held no good copy, and start-up (R204) has ended.

Every line sends its CLOSED mark. REVEAL is low, so board A, at its default PIN select, is DARK and its blank image is in
flight, while board B is LIVE and its repaint of the empty Standings is in flight (R172). What the spec leaves open is
named in log entries: the pin levels in 1, the contents of a rule store that nothing has written and the choice of the end of
start-up as the instant of reset in 3, the MODEL's own fields in 16. -/
def State.reset : State :=
  { State.powerOnValues Rules.default { values := Vector.replicate 26 0#24, check := 0xFF#8 } 0x5C#7 false [] 0
      #v[{ Board.initial with mode := .dark, inFlight := some { kind := .blank, image := blankImage, order := [] } },
         { Board.initial with mode := .live, inFlight := some { kind := .repaint, image := blankImage, order := [] } }]
      rulesDefaultedOnly { acknowledged := [], shifted := [] } with
    phase := .running
    lines := Vector.replicate 4 { Line.initial with sending := some (.mark .closed) } }

end Sys2Proof.Machine
end

