-- ==== Sys2Proof/Machine/Ops.lean ====
section
/-! DEFINITION. The named reads and writes of the device's records, through which every block reaches them, and the
small views of the state that several chapters use. -/

namespace Sys2Proof.Machine

/-! ## Records by number -/

def State.team (s : State) (t : TeamNo) : Team := s.teams[t]
def State.seat (s : State) (i : SeatNo) : Seat := s.seats[i]
def State.line (s : State) (n : LineNo) : Line := s.lines[n]
def State.board (s : State) (b : BoardNo) : Board := s.boards[b]
def State.entry (s : State) (i : SeatNo) : Option SheetEntry := s.sheet[i]
def State.rule (s : State) (r : RuleId) : Nat := s.rules[r]

def State.setTeam (t : TeamNo) (x : Team) (s : State) : State := { s with teams := s.teams.set t x }
def State.setSeat (i : SeatNo) (x : Seat) (s : State) : State := { s with seats := s.seats.set i x }
def State.setLine (n : LineNo) (x : Line) (s : State) : State := { s with lines := s.lines.set n x }
def State.setBoard (b : BoardNo) (x : Board) (s : State) : State := { s with boards := s.boards.set b x }
def State.setEntry (i : SeatNo) (x : Option SheetEntry) (s : State) : State := { s with sheet := s.sheet.set i x }
def State.setRuleValue (r : RuleId) (v : Nat) (s : State) : State := { s with rules := s.rules.set r v }
def State.mapTeams (f : Team → Team) (s : State) : State := { s with teams := s.teams.map f }
def State.mapSeats (f : Seat → Seat) (s : State) : State := { s with seats := s.seats.map f }
def State.mapLines (f : LineNo → Line → Line) (s : State) : State :=
  { s with lines := Vector.ofFn fun n => f n s.lines[n] }

/-- Every team number, ascending. -/
def allTeams : List TeamNo := List.finRange 16

/-- Every seat number, ascending. -/
def allSeats : List SeatNo := List.finRange 128

/-! ## Seats and lines (R24) -/

/-- The line of a seat: its number divided by 32, rounded down (R24). -/
def lineOf (i : SeatNo) : LineNo := ⟨i.val / 32, by omega⟩

/-- The local address of a seat: its number mod 32 (R24). -/
def localOf (i : SeatNo) : LocalAddr := ⟨i.val % 32, by omega⟩

/-- The seat of a line and local address (R46). -/
def seatAt (n : LineNo) (a : LocalAddr) : SeatNo := ⟨32 * n.val + a.val, by omega⟩

/-! ## The working rules by name (R196) -/

def Rule.buzzRight : RuleId := 0
def Rule.buzzWrong : RuleId := 1
def Rule.pollBase : RuleId := 2
def Rule.pollSpeed : RuleId := 3
def Rule.pollWrong : RuleId := 4
def Rule.streakCap : RuleId := 5
def Rule.callSettle : RuleId := 6
def Rule.judgeWindow : RuleId := 7
def Rule.earlyPolicy : RuleId := 8
def Rule.timeoutAs : RuleId := 9
def Rule.answerLock : RuleId := 10
def Rule.silenceLimit : RuleId := 11
/-- LINEn_SEATS, rule 12 + n. -/
def Rule.lineSeats (n : LineNo) : RuleId := ⟨12 + n.val, by omega⟩
def Rule.seatRate : RuleId := 16
def Rule.holdUpper : RuleId := 17
def Rule.holdLower : RuleId := 18
def Rule.reholdEvery : RuleId := 19
def Rule.watchMode : RuleId := 20
def Rule.watchInterval : RuleId := 21
/-- BOARDA_CFG and BOARDB_CFG, rules 22 and 23. -/
def Rule.boardCfg (b : BoardNo) : RuleId := ⟨22 + b.val, by omega⟩
def Rule.noticeMask : RuleId := 24
def Rule.checkRequired : RuleId := 25

/-- A line whose LINEn_SEATS is 0 is disabled (R24, R48). -/
def State.lineEnabled (s : State) (n : LineNo) : Bool := s.rule (Rule.lineSeats n) ≠ 0

/-- A seat is fitted while its local address is below the LINEn_SEATS of its line (R24). -/
def State.fitted (s : State) (i : SeatNo) : Bool := (localOf i).val < s.rule (Rule.lineSeats (lineOf i))

/-! ## Views -/

/-- The blocks work, whether start-up has ended or not: the rest of R204 is over. -/
def State.powered (s : State) : Bool := s.phase = .startUp ∨ s.phase = .running

/-- A round is active in OPEN, SETTLING, DRAINING and KEYWAIT (R77). -/
def RoundState.active : RoundState → Bool
  | .opened | .settling | .draining | .keywait => true
  | .idle | .closed => false

def State.roundActive (s : State) : Bool := s.round.state.active

/-- The close instant of the round; 0 when absent (R75). -/
def State.closeInstant (s : State) : Nat := (s.round.body.map (·.closeInstant)).getD 0

/-- The window of the round; 0 when absent (R75). -/
def State.window (s : State) : Nat := (s.round.body.map (·.window)).getD 0

def RuleCopy.zero : RuleCopy :=
  { buzzRight := 0, buzzWrong := 0, pollBase := 0, pollSpeed := 0, pollWrong := 0, streakCap := 0, callSettle := 0,
    judgeWindow := 0, earlyPolicy := 0, timeoutAs := 0, answerLock := 0 }

/-- The round's rule copy. It is absent in IDLE alone, where nothing reads it. -/
def State.copy (s : State) : RuleCopy := (s.round.body.map (·.copy)).getD .zero

/-- The kind of the round, absent in IDLE. -/
def State.kind (s : State) : Option RoundKind := s.round.body.map (·.kind)

/-- A team is listed in Standings while it is ACTIVE or BENCHED (R5, R153). -/
def TeamState.listed : TeamState → Bool
  | .active | .benched => true
  | .free | .retired => false

/-- The seats bound to a team, ascending. -/
def State.members (s : State) (t : TeamNo) : List SeatNo := allSeats.filter fun i => (s.seat i).team = some t

/-- The member count of a team (R3). -/
def State.memberCount (s : State) (t : TeamNo) : Nat := (s.members t).length

/-- The present count of a team (R3). -/
def State.presentCount (s : State) (t : TeamNo) : Nat :=
  ((s.members t).filter fun i => (s.seat i).presence = .present).length

/-- The number of entries on the Response Sheet (R122). -/
def State.entryCount (s : State) : Nat := (allSeats.filter fun i => (s.entry i).isSome).length

/-- The CALLED claim of the ladder, if any (R98). -/
def State.calledClaim (s : State) : Option Claim := s.ladder.find? (·.called)

/-- The claim of a team, if any (R98). -/
def State.claimOf (s : State) (t : TeamNo) : Option Claim := s.ladder.find? (·.team = t)

/-- Replacing a value outside a range by the nearer end of the range (00_scope, Conventions). -/
def clampNat (lo hi v : Nat) : Nat := if v < lo then lo else if hi < v then hi else v

/-- The range of every score (R2). -/
def clampScore (v : Int) : Int := if v < -9999 then -9999 else if 99999 < v then 99999 else v

/-- A character outside 0x20 to 0x7E is stored as 0x20 (R10, R161). -/
def printable (c : Byte) : Byte := if 0x20#8 ≤ c ∧ c ≤ 0x7E#8 then c else 0x20#8

end Sys2Proof.Machine
end

