-- ==== Sys2Proof/Machine/Flags.lean ====
section
/-! DEFINITION. The notice word and ALERT# (R183, R184, R193). -/

namespace Sys2Proof.Machine

/-- The notices (R183). -/
inductive Notice where
  | roundClosed | keyWanted | claimCalled | judgeTimeout | claimCancelled | seatChange
  | lineOverrun (n : LineNo)
  | lineGarble (n : LineNo)
  | consoleLost | rulesDefaulted | storeDone
deriving DecidableEq, Repr

/-- The bit position of each notice in the notice word (R193). -/
def Notice.bit : Notice → Nat
  | .roundClosed => 0
  | .keyWanted => 1
  | .claimCalled => 2
  | .judgeTimeout => 3
  | .claimCancelled => 4
  | .seatChange => 5
  | .lineOverrun n => 6 + n.val
  | .lineGarble n => 10 + n.val
  | .consoleLost => 14
  | .rulesDefaulted => 15
  | .storeDone => 16

/-- The word with one notice set. -/
def Notice.mask (k : Notice) : BitVec 24 := 1#24 <<< k.bit

/-- Whether a notice is set. -/
def State.notice (s : State) (k : Notice) : Bool := s.notices.getLsbD k.bit

/-- A set that finds the flag already set leaves it set (R183). -/
def State.setNotice (k : Notice) (s : State) : State := { s with notices := s.notices ||| k.mask }

/-- ALERT# is driven low, from the end of start-up, while a notice is set whose bit in NOTICE_MASK is 1 (R184, R204).
While RESET# is low, and through power-on rest and start-up, it is released (DEDUCED, log entry 18). Every event that
changes the word or the mask changes this view at once. -/
def State.alertLow (s : State) : Bool :=
  s.phase = .running ∧ s.notices &&& BitVec.ofNat 24 (s.rule Rule.noticeMask) ≠ 0#24

end Sys2Proof.Machine
end

