-- ==== Sys2Proof/Machine/Lines.lean ====
section
/-! DEFINITION. The Seat Line Units (03_seat_lines): outbound queue and transmitter, flow control, receiver, assembler,
judgement of seat frames, and what resets and rule writes do to a line. -/

namespace Sys2Proof.Machine

/-! ## Downstream frames (R58, R194) -/

/-- The code of a lamp value (R191). -/
def Lamp.code : Lamp → Nat
  | .idle => 0 | .answered => 1 | .wait => 2 | .called => 3 | .locked => 4 | .right => 5 | .wrong => 6

/-- The code of a mark (R194). -/
def Mark.code : Mark → Nat
  | .openBuzz => 0x10
  | .openPoll choices => 0x20 + choices
  | .closed => 0x30

/-- The code of a flow frame (R194). -/
def Flow.code : Flow → Nat
  | .hold => 0x5A
  | .go => 0x3C

/-- The lead and code characters of a downstream frame (R194). -/
def DownFrame.leadAndCode : DownFrame → Byte × Byte
  | .lamp addr value => (byte (0x80 + addr.val), byte value.code)
  | .mark value => (0xA0#8, byte value.code)
  | .flow value => (0xC0#8, byte value.code)

/-- The three characters of a downstream frame, closed by the low seven bits of the CRC-8 (R58, R194). -/
def DownFrame.characters (f : DownFrame) : List Byte :=
  [f.leadAndCode.1, f.leadAndCode.2, crc7 [f.leadAndCode.1, f.leadAndCode.2]]

/-- The ten bits of a seat line character: a low start bit, eight data bits least significant first, a high stop bit
(R42). -/
def characterBits (c : Byte) : List Bool := false :: ((List.range 8).map fun k => c.getLsbD k) ++ [true]

/-- The thirty bits that SLn_TX carries for a downstream frame (R42, R58). -/
def DownFrame.bits (f : DownFrame) : List Bool := f.characters.flatMap characterBits

/-! ## Outbound queue and transmitter (R59, R60) -/

/-- The lamp entry of a local address. -/
def OutEntry.isLampOf (addr : LocalAddr) : OutEntry → Bool
  | .lamp a _ => a = addr
  | .mark _ => false

/-- The mark entry. -/
def OutEntry.isMark : OutEntry → Bool
  | .lamp .. => false
  | .mark _ => true

/-- A new entry takes the place of the first entry that `same` marks out, keeping its position, or joins at the back
(R59). -/
def foldEntry (same : OutEntry → Bool) (e : OutEntry) : List OutEntry → List OutEntry
  | [] => [e]
  | d :: ds => if same d then e :: ds else d :: foldEntry same e ds

/-- A lamp entry takes the place of the queued entry of its address, or joins at the back (R59). -/
def Line.queueLamp (addr : LocalAddr) (value : Lamp) (l : Line) : Line :=
  { l with entries := foldEntry (OutEntry.isLampOf addr) (.lamp addr value) l.entries }

/-- A mark takes the place of the queued mark, or joins at the back (R59). -/
def Line.queueMark (value : Mark) (l : Line) : Line :=
  { l with entries := foldEntry OutEntry.isMark (.mark value) l.entries }

/-- A new flow value replaces the flow entry (R59). -/
def Line.queueFlow (value : Flow) (l : Line) : Line := { l with flow := some value }

/-- Every lamp entry is dropped (R61). -/
def Line.dropLamps (l : Line) : Line :=
  { l with entries := l.entries.filter (·.isMark) }

/-- The number of entries in the outbound queue, the frame in flight not counted (R41, R62). -/
def Line.outboundCount (l : Line) : Nat := l.entries.length + (if l.flow.isSome then 1 else 0)

/-- The downstream frame built from a mark or lamp entry (R60). -/
def OutEntry.frame : OutEntry → DownFrame
  | .lamp addr value => .lamp addr value
  | .mark value => .mark value

/-- An idle transmitter takes the flow entry, else the entry with the earliest position, and begins its frame (R60). -/
def Line.kick (l : Line) : Line :=
  match l.sending, l.flow, l.entries with
  | none, some f, _ => { l with sending := some (.flow f), flow := none }
  | none, none, e :: rest => { l with sending := some e.frame, entries := rest }
  | _, _, _ => l

/-- Write to the outbound queue of a line; a disabled line takes no entries (R48). -/
def State.queueOn (n : LineNo) (f : Line → Line) (s : State) : State :=
  if s.lineEnabled n then s.setLine n (f (s.line n)) else s

/-- A lamp write sets the seat's lamp field and queues a lamp entry on the seat's line (R32). -/
def lampWrite (i : SeatNo) (value : Lamp) (s : State) : State :=
  (s.setSeat i { s.seat i with lamp := value }).queueOn (lineOf i) (·.queueLamp (localOf i) value)

/-- A write that reaches several seats in one event, in ascending seat number (R32). -/
def lampWrites (value : SeatNo → Option Lamp) (s : State) : State :=
  allSeats.foldl (fun s i => match value i with | some v => lampWrite i v s | none => s) s

/-- A mark on every enabled line (R61). -/
def queueMarks (value : Mark) (s : State) : State :=
  s.mapLines fun n l => if s.lineEnabled n then l.queueMark value else l

/-- Every idle transmitter with an entry begins a frame (R60). -/
def kickLines (s : State) : State := s.mapLines fun _ l => l.kick

/-- What ends an event at the lines. When the event closed a round, each enabled line queues its CLOSED mark after
every lamp entry of the event (R59, R61, R93); then every idle transmitter with an entry begins (R60; DEDUCED, log
entry 11). `before` is the state at the start of the event. -/
def endEvent (before s : State) : State :=
  kickLines (if before.roundActive ∧ s.round.state = .closed then queueMarks .closed s else s)

/-- A downstream frame ends, and the transmitter takes the next entry or goes idle (R60). -/
def downstreamFrameEnd (n : LineNo) (s : State) : State :=
  if s.powered ∧ (s.line n).sending.isSome then s.setLine n ({ s.line n with sending := none } : Line).kick else s

/-! ## Flow control (R53 to R56) -/

/-- The line enters HELD, queues HOLD and clears its re-hold counter (R53, R56). -/
def Line.enterHeld (l : Line) : Line := { l.queueFlow .hold with held := true, rehold := 0 }

/-- The line queues GO, enters NORMAL and clears its re-hold counter (R55 to R57). -/
def Line.release (l : Line) : Line := { l.queueFlow .go with held := false, rehold := 0 }

/-- REHOLD_EVERY as a number of frames (R196). -/
def reholdFrames (code : Nat) : Nat :=
  match code with
  | 0 => 1
  | 1 => 4
  | 2 => 8
  | _ => 16

/-- A good frame counts toward the re-hold counter of a HELD line; at or above the interval HOLD is queued again and the
counter cleared (R54). -/
def Line.countRehold (every : Nat) (l : Line) : Line :=
  if every ≤ l.rehold + 1 then { l.queueFlow .hold with rehold := 0 } else { l with rehold := l.rehold + 1 }

/-- A good frame joins the receive queue, and the flow checks follow at once (R51, R53, R54). -/
def Line.join (upper every : Nat) (f : SeatFrame) (l : Line) : Line :=
  let joined := { l with queue := l.queue ++ [f] }
  if l.held then joined.countRehold every
  else if upper ≤ joined.queue.length then joined.enterHeld else joined

/-- A good frame is dropped at a full queue; it counts on a HELD line (R52, R54). -/
def Line.overrun (every : Nat) (l : Line) : Line := if l.held then l.countRehold every else l

/-- The oldest frame leaves the receive queue; a HELD line at or below HOLD_LOWER is released (R51, R55). -/
def Line.take (lower : Nat) (l : Line) : Line :=
  let taken := { l with queue := l.queue.tail }
  if l.held ∧ taken.queue.length ≤ lower then taken.release else taken

/-- The flow thresholds as they now stand are applied to a line at once (R56). -/
def Line.applyThresholds (upper lower : Nat) (l : Line) : Line :=
  if l.held then (if l.queue.length ≤ lower then l.release else l)
  else if upper ≤ l.queue.length then l.enterHeld else l

/-! ## Reception (R42 to R52) -/

/-- A start edge on a hunting receiver records the round clock; a false start drops the record and the receiver hunts
again (R42, R50). The receiver of a disabled line takes none (R48). A fall within a character is no start edge (log
entry 10). -/
def startEdge (n : LineNo) (falseStart : Bool) (s : State) : State :=
  if s.powered ∧ s.lineEnabled n ∧ (s.line n).receiver = .hunting then
    s.setLine n { s.line n with
      receiver := if falseStart then .hunting else .receiving s.clock.count (!s.clock.running) }
  else s

/-- The kind in bits 6 to 5 of a lead character (R194); 11 is invalid. -/
def frameKind (lead : Byte) : Option FrameKind :=
  match (lead.toNat / 32) % 4 with
  | 0 => some .checkIn
  | 1 => some .press
  | 2 => some .leave
  | _ => none

/-- The local address in bits 4 to 0 of a lead character (R194). -/
def frameAddress (lead : Byte) : LocalAddr := ⟨lead.toNat % 32, by omega⟩

/-- The judgement of a complete frame: its check, its kind, and the fitting of its address (R46). None is garble. -/
def judgeFrame (seats : Nat) (n : LineNo) (capture : Nat) (stopped : Bool) (lead key age check : Byte) :
    Option SeatFrame :=
  match frameKind lead with
  | some kind =>
    if check = crc7 [lead, key, age] ∧ (frameAddress lead).val < seats then
      some { seat := seatAt n (frameAddress lead), kind, key := key.toNat % 16, age := age.toNat % 128, capture, stopped }
    else none
  | none => none

/-- A garble discard on a line (R47). -/
def garble (n : LineNo) (s : State) : State := s.setNotice (.lineGarble n)

/-- A good frame is placed in the receive queue, or dropped with LINE_OVERRUNn when the queue is full (R51, R52). -/
def placeFrame (n : LineNo) (f : SeatFrame) (s : State) : State :=
  let every := reholdFrames (s.rule Rule.reholdEvery)
  if (s.line n).queue.length < 16 then s.setLine n ((s.line n).join (s.rule Rule.holdUpper) every f)
  else (s.setLine n ((s.line n).overrun every)).setNotice (.lineOverrun n)

/-- A character handed to the assembler with the clock value of its start edge (R44, R46, R47). -/
def assemble (n : LineNo) (c : Byte) (clock : Nat) (stopped : Bool) (s : State) : State :=
  let l := s.line n
  if c.msb then
    let begun := s.setLine n { l with assembler := some { characters := [c], capture := clock, stopped } }
    if l.assembler.isSome then garble n begun else begun
  else
    match l.assembler with
    | none => s
    | some p =>
      let emptied := s.setLine n { l with assembler := none }
      match p.characters with
      | [lead, key, age] =>
        match judgeFrame (s.rule (Rule.lineSeats n)) n p.capture p.stopped lead key age c with
        | some f => placeFrame n f emptied
        | none => garble n emptied
      | _ => s.setLine n { l with assembler := some { p with characters := p.characters ++ [c] } }

/-- A character ends on a line whose receiver is receiving one: the receiver hunts again and the character is handed to
the assembler (R42, R44). On a receiver that is not receiving, no character can end. -/
def characterEnd (n : LineNo) (c : Byte) (s : State) : State :=
  match (s.line n).receiver with
  | .receiving clock stopped =>
    if s.powered ∧ s.lineEnabled n then
      endEvent s (assemble n c clock stopped (s.setLine n { s.line n with receiver := .hunting }))
    else s
  | .hunting => s

/-- The gap limit of a partial frame passes: the frame is discarded as a fragment, which counts as garble (R45, R47). -/
def gapLimit (n : LineNo) (s : State) : State :=
  if s.powered ∧ s.lineEnabled n ∧ (s.line n).assembler.isSome then
    garble n (s.setLine n { s.line n with assembler := none })
  else s

/-! ## Rule writes and resets at a line -/

/-- The line is disabled: what it holds is dropped, with no GO and no notice; a frame in flight completes (R48, R49). -/
def Line.disable (l : Line) : Line := { Line.initial with sending := l.sending }

/-- The line is enabled: it hunts, is NORMAL, and queues GO and a CLOSED mark (R49). -/
def Line.enable (l : Line) : Line := (({ Line.initial with sending := l.sending } : Line).queueFlow .go).queueMark .closed

/-- A write of LINEn_SEATS from `old` to `new` (R49). -/
def Line.seatsWritten (old new : Nat) (l : Line) : Line :=
  if old ≠ 0 ∧ new = 0 then l.disable else if old = 0 ∧ new ≠ 0 then l.enable else l

/-- A write of SEAT_RATE: the receiver hunts anew and a partial frame is discarded without notice (R43), also when the
value written is the one that stood (DEDUCED, log entry 15). -/
def Line.rateWritten (l : Line) : Line := { l with receiver := .hunting, assembler := none }

/-- RESET SESSION at an enabled line: the receive queue is flushed, a HELD line queues GO, the lamp entries are dropped
and a CLOSED mark is queued (R41, R57, R61). -/
def Line.sessionReset (l : Line) : Line :=
  let flushed := { l with queue := [] }
  (({ (if l.held then flushed.release else flushed) with rehold := 0 } : Line).dropLamps).queueMark .closed

/-- OPEN ROUND at an enabled line (R61, R79). -/
def Line.roundOpened (mark : Mark) (l : Line) : Line := l.dropLamps.queueMark mark

end Sys2Proof.Machine
end

