-- ==== Sys2Proof/Machine/Boards.lean ====
section
/-! DEFINITION. The Standings Sorter and the two board drivers (09_standings_and_boards): the ranked list, the resolution
of a board's mode, the images, their transfers, and how a driver takes a standings change. -/

namespace Sys2Proof.Machine

/-! ## Configuration and effective mode (R159, R163) -/

/-- A board's configuration (R159). -/
structure BoardConfig where
  source : BoardMode
  selectConsole : Bool
  consoleEnable : Bool
  autoHold : Bool
  autoBlank : Bool
deriving DecidableEq, Repr

/-- The code of a source or effective mode (R191). -/
def BoardMode.code : BoardMode → Nat
  | .live => 0 | .hold => 1 | .message => 2 | .dark => 3

/-- The source or mode of a code (R191, R196). -/
def BoardMode.ofCode (code : Nat) : BoardMode :=
  match code with
  | 0 => .live
  | 1 => .hold
  | 2 => .message
  | _ => .dark

/-- The packing of a configuration in its working rule (R196). -/
def BoardConfig.pack (c : BoardConfig) : Nat :=
  c.source.code + 4 * flag c.selectConsole + 8 * flag c.consoleEnable + 16 * flag c.autoHold + 32 * flag c.autoBlank

/-- The configuration that a working rule's value holds (R196). -/
def BoardConfig.unpack (v : Nat) : BoardConfig :=
  { source := .ofCode (v % 4), selectConsole := v.testBit 2, consoleEnable := v.testBit 3, autoHold := v.testBit 4,
    autoBlank := v.testBit 5 }

/-- The configuration of a board as its working rule stands (R159). -/
def State.boardConfig (s : State) (b : BoardNo) : BoardConfig := .unpack (s.rule (Rule.boardCfg b))

/-- The effective mode: the first row of R163 whose condition holds. -/
def resolvedMode (c : BoardConfig) (reveal roundActive consoleLost : Bool) : BoardMode :=
  if (if c.selectConsole then !c.consoleEnable else !reveal) then .dark
  else if c.autoBlank && consoleLost then .dark
  else if c.source = .hold || (c.source = .live && c.autoHold && roundActive) then .hold
  else c.source

/-- The mode that a board's configuration and the device's state now give (R163). -/
def State.resolvedMode (s : State) (b : BoardNo) : BoardMode :=
  Machine.resolvedMode (s.boardConfig b) s.reveal.taken s.roundActive s.consoleLost

/-! ## Images (R168 to R170, R195) -/

/-- A text, cut to `width` and followed by spaces to it. -/
def padRight (width : Nat) (text : List Byte) : List Byte := (text ++ List.replicate width 0x20#8).take width

/-- A text right aligned in `width`, led by spaces. -/
def padLeft (width : Nat) (text : List Byte) : List Byte := List.replicate (width - text.length) 0x20#8 ++ text

/-- The decimal digits of a number below 100000. -/
def digits (n : Nat) : List Byte :=
  let digit (k : Nat) : Byte := byte (0x30 + k % 10)
  if n < 10 then [digit n]
  else if n < 100 then [digit (n / 10), digit n]
  else if n < 1000 then [digit (n / 100), digit (n / 10), digit n]
  else if n < 10000 then [digit (n / 1000), digit (n / 100), digit (n / 10), digit n]
  else [digit (n / 10000), digit (n / 1000), digit (n / 100), digit (n / 10), digit n]

/-- A score as its characters, "-" before the first digit of a negative one (R168). -/
def scoreText (v : Int) : List Byte := if v < 0 then 0x2D#8 :: digits v.natAbs else digits v.natAbs

/-- The label, or "TEAM nn" for a team whose label is absent (R168). -/
def labelText (t : TeamNo) (label : List Byte) : List Byte :=
  if label.isEmpty then
    [0x54#8, 0x45#8, 0x41#8, 0x4D#8, 0x20#8, byte (0x30 + t.val / 10), byte (0x30 + t.val % 10)]
  else label

/-- The change marker of the team at place `now`, counted from 0, against the last-LIVE order (R169). -/
def changeMarker (lastLive : List TeamNo) (t : TeamNo) (now : Nat) : Byte :=
  match lastLive.findIdx? (· = t) with
  | none => 0x20#8
  | some before => if now < before then 0x5E#8 else if before < now then 0x76#8 else 0x3D#8

/-- The sixteen characters of a listed team's line (R168). -/
def standingsLine (s : State) (lastLive : List TeamNo) (t : TeamNo) (now : Nat) : List Byte :=
  let x := s.team t
  padLeft 2 (digits (x.rank.getD 0)) ++ [changeMarker lastLive t now] ++ padRight 8 (labelText t x.label) ++
    padLeft 5 (scoreText x.score)

/-- The 256 characters of a repaint: the listed teams in order, then blank lines (R168). -/
def liveImage (s : State) (lastLive : List TeamNo) : List Byte :=
  padRight 256 (s.standings.zipIdx.flatMap fun (t, k) => standingsLine s lastLive t k)

/-- The 256 characters of a message image: the text's two halves on lines 1 and 2 (R170). -/
def messageImage (text : List Byte) : List Byte := padRight 256 text

/-- The 258 bytes that a transfer shifts out (R165, R195). -/
def Transfer.bytes (t : Transfer) : List Byte := 0x02#8 :: t.image ++ [0x03#8]

/-- The bits on the data pin, each byte most significant bit first (R195). -/
def Transfer.bits (t : Transfer) : List Bool := t.bytes.flatMap fun c => (List.range 8).map fun k => c.getMsbD k

/-- The transfer that a board starts for an image: its content is fixed now (R165, R168, R170). -/
def State.newTransfer (s : State) (b : BoardNo) : ImageKind → Transfer
  | .repaint => { kind := .repaint, image := liveImage s (s.board b).lastLive, order := s.standings }
  | .message => { kind := .message, image := messageImage (s.board b).message, order := [] }
  | .blank => { kind := .blank, image := blankImage, order := [] }

/-- A driver starts an image; its order-void flag is cleared (R165). -/
def startImage (b : BoardNo) (kind : ImageKind) (s : State) : State :=
  s.setBoard b { s.board b with inFlight := some (s.newTransfer b kind), orderVoid := false }

/-- The image that a mode sends at its entry (R164). -/
def BoardMode.image : BoardMode → Option ImageKind
  | .dark => some .blank
  | .message => some .message
  | .live => some .repaint
  | .hold => none

/-- An image is sent at once when no transfer is in flight, and is pending otherwise; any image already pending is
replaced (R161, R164). -/
def sendImage (b : BoardNo) (image : Option ImageKind) (s : State) : State :=
  if (s.board b).inFlight.isSome then s.setBoard b { s.board b with pending := image }
  else
    match image with
    | some kind => startImage b kind s
    | none => s

/-- Entry to an effective mode (R164). -/
def enterMode (b : BoardNo) (m : BoardMode) (s : State) : State :=
  sendImage b m.image (s.setBoard b { s.board b with mode := m })

/-- A driver resolves its effective mode, and enters it when it differs (R163, R164). -/
def resolveBoard (b : BoardNo) (s : State) : State :=
  if s.resolvedMode b = (s.board b).mode then s else enterMode b (s.resolvedMode b) s

/-- Both drivers resolve (R163). -/
def resolveBoards (s : State) : State := resolveBoard 1 (resolveBoard 0 s)

/-- A driver takes a standings change (R167). -/
def takeStandingsChange (b : BoardNo) (s : State) : State :=
  if (s.board b).mode = .live then sendImage b (some .repaint) s else s

/-- A transfer ends at its latch: the image is latched, a repaint's order is recorded unless void, and a pending image
starts (R166). -/
def transferEnd (b : BoardNo) (s : State) : State :=
  let d := s.board b
  match d.inFlight with
  | none => s
  | some t =>
    if s.powered then
      let latched := s.setBoard b { d with
        inFlight := none, pending := none, shown := some t.image
        lastLive := if t.kind = .repaint ∧ !d.orderVoid then t.order else d.lastLive }
      match d.pending with
      | none => latched
      | some kind => startImage b kind latched
    else s

/-! ## The Standings Sorter (R153 to R156) -/

/-- A team placed in a list of non-increasing score, after every team with an equal score (R153). -/
def insertByScore (score : TeamNo → Int) (t : TeamNo) : List TeamNo → List TeamNo
  | [] => [t]
  | u :: us => if score u < score t then t :: u :: us else u :: insertByScore score t us

/-- Every ACTIVE and BENCHED team, in non-increasing order of score, equal scores in ascending team number (R153). -/
def sortedTeams (s : State) : List TeamNo :=
  (allTeams.filter fun t => (s.team t).state.listed).foldl (fun l t => insertByScore (fun u => (s.team u).score) t l) []

/-- The rank of a listed team: 1 plus the number of listed teams whose score is strictly greater (R154). -/
def rankIn (s : State) (listed : List TeamNo) (t : TeamNo) : Nat :=
  1 + (listed.filter fun u => (s.team t).score < (s.team u).score).length

/-- The Sorter's update of the list and of every rank (R5, R154, R155). -/
def updateList (s : State) : State :=
  let listed := sortedTeams s
  { s with
    standings := listed
    teams := Vector.ofFn fun t =>
      { s.team t with rank := if (s.team t).state.listed then some (rankIn s listed t) else none } }

/-- An update that is a standings change: the list, the ranks, then its delivery to both drivers (R155, R156). -/
def updateStandings (s : State) : State := takeStandingsChange 1 (takeStandingsChange 0 (updateList s))

end Sys2Proof.Machine
end

