-- ==== Sys2Proof/Machine/Scorer.lean ====
section
/-! DEFINITION. The Scorer (08_scoring): awards and their application, the streak multiplier, BUZZ awards, POLL points,
divisor, mean and scoring event, and the console's changes to a score. -/

namespace Sys2Proof.Machine

/-! ## Applying an award (R139 to R141) -/

/-- The quarters that multiply a positive result (R141). -/
def quarters (streak cap : Nat) : Nat := 4 + min streak cap

/-- An amount multiplied by q quarters, rounded down (R141). -/
def multiplied (amount q : Nat) : Nat := amount * q / 4

/-- An award in a team record: the clamped score, the award as earned, the streak raised to at most 99 or ended (R139). -/
def Team.award (award : Int) (rewarded : Bool) (t : Team) : Team :=
  { t with
    score := clampScore (t.score + award)
    lastAward := some award
    streak := if rewarded then min 99 (t.streak + 1) else 0 }

/-- The Sorter is handed a changed score of a listed team (R140). -/
def scoreChanged (before after : Team) : Bool := after.state.listed && before.score ≠ after.score

/-- A team record is written and a changed score of a listed team handed to the Sorter at once (R140, R155). -/
def writeScore (t : TeamNo) (x : Team) (s : State) : State :=
  if scoreChanged (s.team t) x then updateStandings (s.setTeam t x) else s.setTeam t x

/-! ## BUZZ awards (R142, R143) -/

/-- The award of a RIGHT verdict (R142). -/
def rightAward (c : RuleCopy) (streak : Nat) : Int := multiplied c.buzzRight (quarters streak c.streakCap)

/-- A RIGHT verdict at the Scorer (R142). -/
def scoreRight (t : TeamNo) (s : State) : State :=
  writeScore t ((s.team t).award (rightAward s.copy (s.team t).streak) true) s

/-- A WRONG verdict at the Scorer (R143). -/
def scoreWrong (t : TeamNo) (s : State) : State :=
  writeScore t ((s.team t).award (-(s.copy.buzzWrong : Int)) false) s

/-! ## POLL awards (R145 to R149) -/

/-- The points of a sheet entry (R145). -/
def entryPoints (c : RuleCopy) (window key : Nat) (e : SheetEntry) : Int :=
  if e.choice = key then
    if e.stale then c.pollBase
    else c.pollBase + (c.pollSpeed * (window - min e.offset window) / window : Nat)
  else -(c.pollWrong : Int)

/-- The points of a seat: none without an entry (R145). -/
def State.seatPoints (s : State) (key : Nat) (i : SeatNo) : Int :=
  match s.entry i with
  | some e => entryPoints s.copy s.window key e
  | none => 0

/-- The sum of a team's seat points (R147). -/
def State.pointSum (s : State) (key : Nat) (t : TeamNo) : Int := ((s.members t).map (s.seatPoints key)).sum

/-- The divisor of a team: its seats that are PRESENT or hold an entry (R146). -/
def State.divisor (s : State) (t : TeamNo) : Nat :=
  ((s.members t).filter fun i => (s.seat i).presence = .present || (s.entry i).isSome).length

/-- A sum divided by d, rounded to the nearest whole number, halves away from zero; 0 for d = 0 (R147). -/
def roundedMean (sum : Int) (d : Nat) : Int :=
  if d = 0 then 0
  else if 0 ≤ sum then ((2 * sum.natAbs + d) / (2 * d) : Nat)
  else -((2 * sum.natAbs + d) / (2 * d) : Nat)

/-- The team total of a POLL round (R147). -/
def State.teamTotal (s : State) (key : Nat) (t : TeamNo) : Int := roundedMean (s.pointSum key t) (s.divisor t)

/-- The award that follows from a team total (R148). -/
def pollAward (total : Int) (streak cap : Nat) : Int :=
  if 0 < total then multiplied total.natAbs (quarters streak cap) else total

/-- One team at POLL scoring: an ACTIVE team is awarded, any other is left as it is (R148, R149). -/
def State.polledTeam (s : State) (key : Nat) (t : TeamNo) : Team :=
  let x := s.team t
  if x.state = .active then
    let total := s.teamTotal key t
    x.award (pollAward total x.streak s.copy.streakCap) (0 < total)
  else x

/-- The POLL scoring event: every team's award is read from the state at the event, and the changed scores of listed
teams are handed to the Sorter once (R140, R149). -/
def scorePoll (key : Nat) (s : State) : State :=
  let scored := { s with teams := Vector.ofFn fun t => s.polledTeam key t }
  if allTeams.any fun t => scoreChanged (s.team t) (scored.team t) then updateStandings scored else scored

end Sys2Proof.Machine
end

