-- ==== Sys2Proof/Machine/RoundControl.lean ====
section
/-! DEFINITION. The Round Controller (05_rounds) and the Round Clock's part in it (04_round_clock): opening, the window
and settling, the key, and the closing of a round. -/

namespace Sys2Proof.Machine

/-- The lowest and highest window (R78). -/
def clampWindow (w : Nat) : Nat := clampNat 100 1000000 w

/-- The working rules that a round copies at its open (R80). -/
def State.takeCopy (s : State) : RuleCopy :=
  { buzzRight := s.rule Rule.buzzRight, buzzWrong := s.rule Rule.buzzWrong, pollBase := s.rule Rule.pollBase
    pollSpeed := s.rule Rule.pollSpeed, pollWrong := s.rule Rule.pollWrong, streakCap := s.rule Rule.streakCap
    callSettle := s.rule Rule.callSettle, judgeWindow := s.rule Rule.judgeWindow
    earlyPolicy := s.rule Rule.earlyPolicy, timeoutAs := s.rule Rule.timeoutAs, answerLock := s.rule Rule.answerLock }

/-- The mark that opens a round of a kind (R61, R194). -/
def RoundKind.openMark : RoundKind → Mark
  | .buzz => .openBuzz
  | .poll choices _ => .openPoll choices

/-- A taken OPEN ROUND, step by step (R79). -/
def openRound (kind : RoundKind) (window : Nat) (s : State) : State :=
  let body : RoundBody := { kind, window, closeInstant := window, copy := s.takeCopy }
  let cleared : State :=
    { s with
      round := { state := .opened, body := some body, outcome := none, tieStart := s.round.tieStart + 1 }
      clock := { Clock.initial with running := true, windowEnd := some window }
      teams := s.teams.map fun t => { t with locked := false }
      seats := s.seats.map fun x => { x with locked := false, lamp := .idle }
      ladder := []
      sheet := Vector.replicate 128 none }
  resolveBoards
    (cleared.mapLines fun n l => if s.lineEnabled n then l.roundOpened kind.openMark else l)

/-- The round reaches CLOSED (R93, R66). The CLOSED marks of its step 5 are queued by `endEvent`, after every lamp entry
of the event (R59). -/
def closeRound (outcome : RoundOutcome) (s : State) : State :=
  resolveBoards
    (({ s with
      round := { s.round with state := .closed, outcome := some outcome }
      teams := s.teams.map fun t => { t with locked := false }
      seats := s.seats.map fun x => { x with locked := false }
      ladder := []
      clock := { Clock.initial with count := s.clock.count } } : State).setNotice .roundClosed)

/-- Entry to SETTLING with a close instant (R71, R82, R83). -/
def enterSettling (closeInstant : Nat) (s : State) : State :=
  { s with
    round := { s.round with
      state := .settling
      body := s.round.body.map fun b => { b with closeInstant } }
    clock := { s.clock with windowEnd := none, settlingEnd := some (closeInstant + 128) } }

/-- An armed compare whose target the running count has reached has its event raised (R67, R69). -/
def Clock.due (c : Clock) (target : Option Nat) : Bool :=
  c.running && (match target with | some t => t ≤ c.count | none => false)

/-- The window end, taken in OPEN (R70, R82). -/
def windowEnd (s : State) : State :=
  if s.powered ∧ s.clock.due s.clock.windowEnd ∧ s.round.state = .opened then enterSettling s.window s else s

/-- A POLL round is scored with its key and closed (R87, R89). -/
def scoreAndClose (key : Nat) (s : State) : State := closeRound .scored (scorePoll key s)

/-- A POLL round whose key is absent at the settling end (R87). -/
def enterKeywait (s : State) : State := ({ s with round := { s.round with state := .keywait } } : State).setNotice .keyWanted

/-- What the settling end does to a round in SETTLING, its compare disarmed (R85, R87). -/
def settle (s : State) : State :=
  match s.kind with
  | some .buzz =>
    if s.ladder.isEmpty then closeRound .noWinner s else { s with round := { s.round with state := .draining } }
  | some (.poll _ (some key)) => scoreAndClose key s
  | some (.poll _ none) => enterKeywait s
  | none => s

/-- The settling end, taken in SETTLING (R71, R85, R87). -/
def settlingEnd (s : State) : State :=
  if s.powered ∧ s.clock.due s.clock.settlingEnd ∧ s.round.state = .settling then
    endEvent s (settle { s with clock := { s.clock with settlingEnd := none } })
  else s

/-- The key is stored in the round record (R89). -/
def storeKey (key : Nat) (s : State) : State :=
  { s with round := { s.round with
      body := s.round.body.map fun b =>
        { b with kind := match b.kind with | .poll choices _ => .poll choices (some key) | .buzz => .buzz } } }

/-- The raised CONSOLE_LOST condition and ABANDON ROUND close an active round without a result (R91, R92). -/
def abandonRound (s : State) : State := if s.roundActive then closeRound .abandoned s else s

end Sys2Proof.Machine
end

