-- ==== Sys2Proof/Machine/Ladder.lean ====
section
/-! DEFINITION. The Claim Ladder (06_the_claim_ladder): admission and order of claims, the call, verdicts, the judge
deadline, withdrawal and cancellation. -/

namespace Sys2Proof.Machine

/-! ## Order (R98, R99) -/

/-- The tie position of a team (R99). -/
def tiePosition (tieStart t : TeamNo) : Nat := (t.val + 16 - tieStart.val) % 16

/-- Whether claim `d` of the ladder stands before a WAITING claim `c` (R98, R99, R104). -/
def Claim.standsBefore (tieStart : TeamNo) (d c : Claim) : Bool :=
  d.called || d.offset < c.offset ||
    (d.offset = c.offset && tiePosition tieStart d.team < tiePosition tieStart c.team)

/-- A WAITING claim in its place on the ladder (R104). -/
def placeClaim (tieStart : TeamNo) (c : Claim) : List Claim → List Claim
  | [] => [c]
  | d :: ds => if d.standsBefore tieStart c then d :: placeClaim tieStart c ds else c :: d :: ds

/-- The overtaken flag of a claim made or replaced now (R104, R105). -/
def State.overtakes (s : State) (offset : Nat) : Bool :=
  match s.calledClaim with
  | some k => offset < k.offset
  | none => false

/-! ## Calling (R72, R73, R107) -/

/-- The head becomes CALLED: its judge deadline is armed, its lamp set and CLAIM_CALLED set (R107). -/
def callHead (s : State) : State :=
  match s.ladder with
  | [] => s
  | head :: rest =>
    (lampWrite head.seat .called
      { s with
        ladder := { head with called := true } :: rest
        clock := { s.clock with call := none, judgeDeadline := some (s.clock.count + s.copy.judgeWindow) } }).setNotice
      .claimCalled

/-- After a change of the ladder the call compare is withdrawn, or armed for the head, whose call is made at once when
its target is not past the count (R69, R72). -/
def rearmCall (s : State) : State :=
  match s.ladder with
  | [] => { s with clock := { s.clock with call := none } }
  | head :: _ =>
    if s.calledClaim.isSome then { s with clock := { s.clock with call := none } }
    else
      let target := head.offset + s.copy.callSettle
      if target ≤ s.clock.count then callHead s else { s with clock := { s.clock with call := some target } }

/-- After a removal: an empty ladder in DRAINING closes the round with NO_WINNER, and otherwise the call compare is
re-armed or withdrawn (R86, R114, R118, R119). -/
def ladderGoesOn (s : State) : State :=
  if s.ladder.isEmpty ∧ s.round.state = .draining then closeRound .noWinner s else rearmCall s

/-- The call event of the head (R72, R107). -/
def callEvent (s : State) : State :=
  if s.powered ∧ s.clock.due s.clock.call then endEvent s (callHead s) else s

/-! ## Admission (R101 to R105) -/

/-- LOCKOUT of an early press: the team is locked, its WAITING claim removed with the call re-armed for the new head, and
every member's lamp set to LOCKED, in the order of the rule's sentences (R103). -/
def lockOutTeam (t : TeamNo) (s : State) : State :=
  let locked := s.setTeam t { s.team t with locked := true }
  let removed :=
    if (s.claimOf t).isSome then rearmCall { locked with ladder := s.ladder.filter (·.team ≠ t) } else locked
  lampWrites (fun i => if (s.seat i).team = some t then some .locked else none) removed

/-- A press of a team with no claim is inserted (R104). -/
def insertClaim (t : TeamNo) (i : SeatNo) (offset : Nat) (s : State) : State :=
  let claim : Claim := { team := t, seat := i, offset, called := false, overtaken := s.overtakes offset }
  rearmCall (lampWrite i .wait { s with ladder := placeClaim s.round.tieStart claim s.ladder })

/-- A press with a strictly smaller offset replaces its team's WAITING claim (R105). -/
def replaceClaim (old : Claim) (i : SeatNo) (offset : Nat) (s : State) : State :=
  let claim : Claim := { team := old.team, seat := i, offset, called := false, overtaken := s.overtakes offset }
  let placed :=
    { s with ladder := placeClaim s.round.tieStart claim (s.ladder.filter (·.team ≠ old.team)) }
  rearmCall (lampWrite i .wait (if old.seat = i then placed else lampWrite old.seat .idle placed))

/-- A press handed to the ladder, judged by the seven checks of R102 in their order. -/
def ladderPress (t : TeamNo) (f : SeatFrame) (s : State) : State :=
  if (s.team t).locked then s
  else if (s.claimOf t).any (·.called) then s
  else if f.age = 127 ∨ f.stopped then s
  else if f.capture < f.age then (if s.copy.earlyPolicy = 1 then lockOutTeam t s else s)
  else
    let offset := f.capture - f.age
    if s.closeInstant < offset ∨ s.clock.count < offset then s
    else
      match s.claimOf t with
      | some c => if offset < c.offset then replaceClaim c f.seat offset s else s
      | none => insertClaim t f.seat offset s

/-! ## Verdicts (R111 to R116) -/

/-- A claim leaves the ladder and the judge deadline is withdrawn (R112, R113, R119). -/
def removeCalled (c : Claim) (s : State) : State :=
  { s with
    ladder := s.ladder.filter (·.team ≠ c.team)
    clock := { s.clock with judgeDeadline := none } }

/-- The team of a claim becomes locked for the rest of the round (R112, R113). -/
def lockTeam (t : TeamNo) (s : State) : State := s.setTeam t { s.team t with locked := true }

/-- The lamps of a verdict: `value` for the claim's seat, LOCKED for the team's other seats, ascending (R112, R113). -/
def verdictLamps (c : Claim) (value : Lamp) (s : State) : State :=
  lampWrites
    (fun i => if i = c.seat then some value else if (s.seat i).team = some c.team then some .locked else none) s

/-- A RIGHT verdict on the CALLED claim (R111, R90). -/
def judgeRight (c : Claim) (s : State) : State :=
  let lit := lampWrite c.seat .right (scoreRight c.team s)
  let cleared :=
    lampWrites (fun i => if lit.ladder.any fun w => !w.called && w.seat = i then some .idle else none) lit
  closeRound (.won c.team c.seat) cleared

/-- A WRONG verdict on the CALLED claim (R112). -/
def judgeWrong (c : Claim) (s : State) : State :=
  ladderGoesOn (removeCalled c (verdictLamps c .wrong (lockTeam c.team (scoreWrong c.team s))))

/-- A PASS verdict on the CALLED claim (R113). -/
def judgePass (c : Claim) (s : State) : State :=
  ladderGoesOn (removeCalled c (verdictLamps c .locked (lockTeam c.team s)))

/-- The judge deadline judges the CALLED claim as TIMEOUT_AS (R116). -/
def timeOut (c : Claim) (s : State) : State :=
  if s.copy.timeoutAs = 0 then judgeWrong c (s.setNotice .judgeTimeout) else judgePass c (s.setNotice .judgeTimeout)

/-- The judge-deadline event; the compare is disarmed by the event (R69, R73, R116). -/
def judgeDeadlineEvent (s : State) : State :=
  if s.powered ∧ s.clock.due s.clock.judgeDeadline then
    match s.calledClaim with
    | some c => endEvent s (timeOut c { s with clock := { s.clock with judgeDeadline := none } })
    | none => { s with clock := { s.clock with judgeDeadline := none } }
  else s

/-! ## Withdrawal and cancellation (R118, R119) -/

/-- A claim leaves the ladder without a verdict: a WAITING one is withdrawn, a CALLED one cancelled with
CLAIM_CANCELLED; its seat's lamp becomes IDLE and the ladder goes on. -/
def dropClaim (c : Claim) (s : State) : State :=
  if c.called then ladderGoesOn ((lampWrite c.seat .idle (removeCalled c s)).setNotice .claimCancelled)
  else ladderGoesOn (lampWrite c.seat .idle { s with ladder := s.ladder.filter (·.team ≠ c.team) })

/-- The claim of a team is dropped, if it holds one (R14, R18). -/
def dropTeamClaim (t : TeamNo) (s : State) : State :=
  match s.claimOf t with
  | some c => dropClaim c s
  | none => s

/-- The claim that a seat holds is dropped, if it holds one (R37). -/
def dropSeatClaim (i : SeatNo) (s : State) : State :=
  match s.ladder.find? (·.seat = i) with
  | some c => dropClaim c s
  | none => s

end Sys2Proof.Machine
end

