-- ==== Sys2Proof/Machine/ClockSteps.lean ====
section
/-! DEFINITION. The rise of the round clock and its saturation (R64, R67, R69). -/

namespace Sys2Proof.Machine

/-- The highest count value (R64). -/
def maxCount : Nat := 16777215

/-- The rise of a running clock by one; the rise to the highest value stops it (R64, R67). -/
def Clock.rise (c : Clock) : Clock :=
  if c.count + 1 < maxCount then { c with count := c.count + 1 } else { c with count := maxCount, running := false }

/-- An event of the Round Controller is raised and untaken. -/
def controllerDue (s : State) : Bool := s.clock.due s.clock.windowEnd || s.clock.due s.clock.settlingEnd

/-- An event of the Claim Ladder is raised and untaken. -/
def ladderDue (s : State) : Bool := s.clock.due s.clock.call || s.clock.due s.clock.judgeDeadline

/-- The Round Controller takes the event raised at the standing count, if there is one. -/
def controllerEvent (s : State) : State :=
  if s.clock.due s.clock.windowEnd then windowEnd s else settlingEnd s

/-- The Claim Ladder takes the event raised at the standing count, if there is one. -/
def ladderEvent (s : State) : State := if s.clock.due s.clock.call then callEvent s else judgeDeadlineEvent s

/-- The events raised at the standing count and not yet taken are taken, in either order when both owners have one (R69,
log entry 8). -/
def takeDueEvents (s : State) : State :=
  if controllerDue s && ladderDue s then
    let t := { s with freeIndex := s.freeIndex + 1 }
    if Config.ladderFirst s.freeIndex then controllerEvent (ladderEvent t) else ladderEvent (controllerEvent t)
  else ladderEvent (controllerEvent s)

/-- The next 100 µs step: every event of the standing count is taken before the count rises, and a clock still running
rises (R64, R69; DEDUCED, log entry 22). -/
def roundClockStep (s : State) : State :=
  if s.powered ∧ s.clock.running then
    let t := takeDueEvents s
    if t.clock.running then { t with clock := t.clock.rise } else t
  else s

/-- The rise that brings the count to its highest value (R67). -/
def clockSaturation (s : State) : State := if s.clock.count + 1 = maxCount then roundClockStep s else s

end Sys2Proof.Machine
end

