-- ==== Sys2Proof/Machine/RuleMemory.lean ====
section
/-! DEFINITION. Rule Memory and the console watchdog (11_rule_memory_and_start_up, 10_console_port): the ranges of the
working rules, what a write of each does, the rule store, store and recall. -/

namespace Sys2Proof.Machine

/-! ## Ranges (R196, R197) -/

/-- The lower end of a rule's range (R196). -/
def ruleLow (r : RuleId) : Nat :=
  #v[0, 0, 0, 0, 0, 0, 0, 1000, 0, 0, 0, 10, 0, 0, 0, 0, 4, 2, 0, 0, 0, 0, 0, 0, 0, 0][r]

/-- The upper end of a rule's range, HOLD_LOWER's under the HOLD_UPPER that stands (R196, R197). -/
def ruleHigh (holdUpper : Nat) (r : RuleId) : Nat :=
  #v[1000, 1000, 1000, 1000, 1000, 4, 127, 600000, 1, 1, 1, 600, 32, 32, 32, 32, 255, 16, holdUpper - 1, 3, 2, 3, 63, 63,
    0xFFFFFF, 1][r]

/-- A value clamped into its rule's range; a board configuration is clamped by clearing bits 6 and above, as R197 says for
SET RULE, also where it comes from the rule store, of which R203 and R204 say only that it is clamped (DESIGN CHOICE, log
entry 27). -/
def clampRule (holdUpper : Nat) (r : RuleId) (v : Nat) : Nat :=
  if r = 22 ∨ r = 23 then v % 64 else clampNat (ruleLow r) (ruleHigh holdUpper r) v

/-! ## The watchdog (R188 to R190) -/

/-- WATCH_INTERVAL in milliseconds (R196). -/
def watchMilliseconds (code : Nat) : Nat :=
  match code with
  | 0 => 250
  | 1 => 500
  | 2 => 1000
  | _ => 2000

/-- The watchdog enters RUNNING with a full interval in REPORT or SAFE, and `otherwise` in OFF (R188, R190). -/
def State.armedWatchdog (s : State) (otherwise : Watchdog) : Watchdog :=
  if s.rule Rule.watchMode = 0 then otherwise else .running (watchMilliseconds (s.rule Rule.watchInterval))

/-- The taking of a valid request: the CONSOLE_LOST condition is cleared and the boards resolve; the watchdog restarts
in REPORT or SAFE and stays UNARMED in OFF (R190). -/
def requestTaken (s : State) : State :=
  let heard := if s.consoleLost then resolveBoards { s with consoleLost := false } else s
  { heard with watchdog := s.armedWatchdog s.watchdog }

/-- The expiry of a RUNNING watchdog: EXPIRED, the notice, and in SAFE the condition, which abandons an active round and
lets both boards resolve (R92, R189). -/
def watchdogExpiry (s : State) : State :=
  match s.watchdog with
  | .running _ =>
    if s.phase = .running then
      let expired := ({ s with watchdog := .expired } : State).setNotice .consoleLost
      if s.rule Rule.watchMode = 2 then
        endEvent s (resolveBoards (abandonRound { expired with consoleLost := true }))
      else expired
    else s
  | .unarmed | .expired => s

/-! ## Writes (R198) -/

/-- The flow thresholds are applied to every enabled line (R56). -/
def applyThresholds (s : State) : State :=
  s.mapLines fun n l =>
    if s.lineEnabled n then l.applyThresholds (s.rule Rule.holdUpper) (s.rule Rule.holdLower) else l

/-- A write of HOLD_UPPER at or below the standing HOLD_LOWER brings HOLD_LOWER to one below it (R197). -/
def lowerFollows (s : State) : State :=
  if s.rule Rule.holdUpper ≤ s.rule Rule.holdLower then s.setRuleValue Rule.holdLower (s.rule Rule.holdUpper - 1) else s

/-- A write of LINEn_SEATS acts on its line (R49). -/
def lineSeatsWritten (n : LineNo) (old : Nat) (s : State) : State :=
  s.setLine n ((s.line n).seatsWritten old (s.rule (Rule.lineSeats n)))

/-- A write of SEAT_RATE acts on every enabled line (R43). -/
def seatRateWritten (s : State) : State := s.mapLines fun n l => if s.lineEnabled n then l.rateWritten else l

/-- The write of a working rule, which acts at the write (R198). -/
def writeRule (r : RuleId) (v : Nat) (s : State) : State :=
  let written := s.setRuleValue r v
  match r.val with
  | 12 => lineSeatsWritten 0 (s.rule r) written
  | 13 => lineSeatsWritten 1 (s.rule r) written
  | 14 => lineSeatsWritten 2 (s.rule r) written
  | 15 => lineSeatsWritten 3 (s.rule r) written
  | 16 => seatRateWritten written
  | 17 => applyThresholds (lowerFollows written)
  | 18 | 19 => applyThresholds written
  | 20 | 21 => { written with watchdog := written.armedWatchdog .unarmed }
  | 22 => resolveBoard 0 written
  | 23 => resolveBoard 1 written
  | _ => written

/-! ## The rule store (R200 to R203) -/

/-- The 78 bytes of a store image: the values in id order, each least significant byte first (R200). -/
def storeBytes (values : Vector (BitVec 24) 26) : List Byte := values.toList.flatMap le24

/-- The check byte of a store image (R200). -/
def storeCheck (values : Vector (BitVec 24) 26) : Byte := crc8 (storeBytes values)

/-- The store's check is good (R200). -/
def RuleStore.good (m : RuleStore) : Bool := m.check = storeCheck m.values

/-- The working rules as a store's values (R201). -/
def snapshot (rules : Rules) : Vector (BitVec 24) 26 := rules.map fun v => BitVec.ofNat 24 v

/-- A store completes: the rule store holds the snapshot and its check (R202). -/
def storeComplete (s : State) : State :=
  match s.storing with
  | some values =>
    ({ s with store := { values, check := storeCheck values }, storing := none } : State).setNotice .storeDone
  | none => s

/-- An abandoned store leaves the rule store with a bad check (R202). What it holds is free (log entry 7). -/
def abandonStore (s : State) : State :=
  match s.storing with
  | some _ =>
    let values := Config.tornValues s.freeIndex
    let check := Config.tornCheck s.freeIndex
    { s with
      store := { values, check := if check = storeCheck values then check ^^^ 1#8 else check }
      storing := none
      freeIndex := s.freeIndex + 1 }
  | none => s

/-- Each stored value is clamped into its range and written, in ascending id order, HOLD_LOWER against the HOLD_UPPER
just written (R203; DEDUCED, log entry 12), a board configuration by clearing bits (DESIGN CHOICE, log entry 27). -/
def recallWrites (m : RuleStore) (s : State) : State :=
  (List.finRange 26).foldl
    (fun s r => writeRule r (clampRule (s.rule Rule.holdUpper) r m.values[r].toNat) s) s

/-- The working rules that start-up loads from a good store: each stored value clamped into its range (R204), a board
configuration by clearing bits (DESIGN CHOICE, log entry 27). -/
def loadedRules (m : RuleStore) : Rules :=
  Vector.ofFn fun r => clampRule (clampRule 0 Rule.holdUpper m.values[Rule.holdUpper].toNat) r m.values[r].toNat

end Sys2Proof.Machine
end

