-- ==== Sys2Proof/Machine/Sheet.lean ====
section
/-! DEFINITION. The Response Sheet (07_poll_answers): admission, storage and replacement of answers. -/

namespace Sys2Proof.Machine

/-- The press offset of an answer that is not early: the capture value itself for a stale press, the capture value less
the age otherwise (R124). -/
def answerOffset (f : SeatFrame) : Nat := if f.age = 127 then f.capture else f.capture - f.age

/-- The entry that a press would store (R124, R127). -/
def answerEntry (f : SeatFrame) : SheetEntry :=
  { choice := f.key, offset := answerOffset f, stale := f.age = 127 }

/-- LOCKOUT of an early answer: the seat is locked, its entry removed, its lamp set to LOCKED (R126). -/
def lockOutSeat (i : SeatNo) (s : State) : State :=
  lampWrite i .locked ((s.setSeat i { s.seat i with locked := true }).setEntry i none)

/-- An answer is stored, or replaces the seat's entry, and the lamp is set to ANSWERED (R127, R129). -/
def storeAnswer (i : SeatNo) (e : SheetEntry) (s : State) : State := lampWrite i .answered (s.setEntry i (some e))

/-- A press handed to the sheet, judged by the seven checks of R125 in their order. -/
def sheetPress (choices : Nat) (f : SeatFrame) (s : State) : State :=
  if (s.seat f.seat).locked then s
  else if choices < f.key then s
  else if f.stopped then s
  else if f.age ≠ 127 ∧ f.capture < f.age then (if s.copy.earlyPolicy = 1 then lockOutSeat f.seat s else s)
  else if s.closeInstant < answerOffset f ∨ s.clock.count < answerOffset f then s
  else
    match s.entry f.seat with
    | none => storeAnswer f.seat (answerEntry f) s
    | some old =>
      if s.copy.answerLock = 1 ∧ old.offset < answerOffset f then storeAnswer f.seat (answerEntry f) s else s

end Sys2Proof.Machine
end

