-- ==== Sys2Proof/Machine/Seats.lean ====
section
/-! DEFINITION. The Seat Table (02_seat_records): the take of a frame with its presence update and press hand-off, the
housekeeping expiry, and the binding and unbinding of seats. -/

namespace Sys2Proof.Machine

/-- A seat's presence is written; a change sets SEAT_CHANGE (R26, R27). -/
def writePresence (i : SeatNo) (presence : Presence) (countdown : Nat) (s : State) : State :=
  let written := s.setSeat i { s.seat i with presence, countdown }
  if (s.seat i).presence = presence then written else written.setNotice .seatChange

/-- The presence update of a frame (R26). -/
def updatePresence (f : SeatFrame) (s : State) : State :=
  match f.kind with
  | .leave => writePresence f.seat .absent 0 s
  | .checkIn | .press => writePresence f.seat .present (s.rule Rule.silenceLimit) s

/-- The hand-off of a press, under the conditions of R29 as they now stand. -/
def handPress (f : SeatFrame) (s : State) : State :=
  if f.kind = .press ∧ (s.round.state = .opened ∨ s.round.state = .settling) then
    match (s.seat f.seat).team with
    | some t =>
      if (s.team t).state = .active then
        match s.kind with
        | some .buzz => if f.key = 0 then ladderPress t f s else s
        | some (.poll choices _) => if 1 ≤ f.key ∧ f.key ≤ 6 then sheetPress choices f s else s
        | none => s
      else s
    | none => s
  else s

/-- The Seat Table takes the oldest frame of a line's receive queue (R28, R51, R55). -/
def seatTableTake (n : LineNo) (s : State) : State :=
  match (s.line n).queue with
  | [] => s
  | f :: _ =>
    if s.powered then
      endEvent s (handPress f (updatePresence f (s.setLine n ((s.line n).take (s.rule Rule.holdLower)))))
    else s

/-- A seat at a housekeeping expiry: the countdown of a PRESENT seat falls by one, and at 0 it is SILENT (R27). -/
def Seat.tick (x : Seat) : Seat :=
  if x.presence = .present then
    { x with countdown := x.countdown - 1, presence := if x.countdown - 1 = 0 then .silent else .present }
  else x

/-- The housekeeping expiry (R27, R74). -/
def housekeepingExpiry (s : State) : State :=
  if s.powered then
    let ticked := s.mapSeats Seat.tick
    if allSeats.any fun i => (s.seat i).presence ≠ (ticked.seat i).presence then ticked.setNotice .seatChange else ticked
  else s

/-- The unbinding of a seat from its team (R37): claim, answer, lock, lamp and team, in that order. An unbound seat is
left as it is. -/
def unbindSeat (i : SeatNo) (s : State) : State :=
  if (s.seat i).team.isNone then s
  else
    let dropped := (dropSeatClaim i s).setEntry i none
    let lit := lampWrite i .idle (dropped.setSeat i { dropped.seat i with locked := false })
    lit.setSeat i { lit.seat i with team := none }

/-- A taken bind, first unbinding the seat from another team (R35). -/
def bindSeat (i : SeatNo) (t : TeamNo) (s : State) : State :=
  let free := unbindSeat i s
  free.setSeat i { free.seat i with team := some t }

end Sys2Proof.Machine
end

