-- ==== Sys2Proof/Machine/Teams.lean ====
section
/-! DEFINITION. The Team Table (01_team_records): what enrolment, renaming, benching, recall, retirement and purge do to
the records and to the blocks they reach. -/

namespace Sys2Proof.Machine

/-- A taken enrolment (R11). -/
def enrolTeam (t : TeamNo) (label : List Byte) (score : Int) (s : State) : State :=
  updateStandings
    (s.setTeam t { Team.initial with state := .active, label := label.map printable, score := clampScore score })

/-- A taken rename; a standings change when a listed team's label differs (R13). -/
def renameTeam (t : TeamNo) (label : List Byte) (s : State) : State :=
  let x := s.team t
  let renamed := s.setTeam t { x with label := label.map printable }
  if x.state.listed ∧ x.label ≠ label.map printable then updateStandings renamed else renamed

/-- A team's state alone is written. -/
def setTeamState (t : TeamNo) (state : TeamState) (s : State) : State := s.setTeam t { s.team t with state }

/-- A taken bench: the team is BENCHED and its claim withdrawn or cancelled (R14). -/
def benchTeam (t : TeamNo) (s : State) : State := dropTeamClaim t (setTeamState t .benched s)

/-- A taken recall (R16). -/
def recallTeam (t : TeamNo) (s : State) : State := setTeamState t .active s

/-- Every seat bound to a team is unbound, in ascending seat number (R19). -/
def unbindMembers (t : TeamNo) (s : State) : State := (s.members t).foldl (fun s i => unbindSeat i s) s

/-- A taken retirement: claim, seats and answers, lock, then Standings (R17, R18, R19). DESIGN CHOICE (log entry 24): a
ladder left empty in DRAINING closes the round, and the boards resolve, before the Standings lose the team; R17, R18 and
R171 give the two no order. -/
def retireTeam (t : TeamNo) (s : State) : State :=
  let unbound := unbindMembers t (dropTeamClaim t s)
  updateStandings (unbound.setTeam t { unbound.team t with state := .retired, locked := false })

/-- A taken purge (R20, R21). -/
def purgeTeam (t : TeamNo) (s : State) : State :=
  s.setTeam t { s.team t with state := .free, label := [], score := 0, streak := 0, lastAward := none }

end Sys2Proof.Machine
end

