-- ==== Sys2Proof/Machine/Operands.lean ====
section
/-! DEFINITION. The argument forms of the console requests: the record numbers and code sets that an argument byte may
hold (R9, R34, R160, R191, R197), and the byte layouts of the answers' data (R193). -/

namespace Sys2Proof.Machine

/-! ## Arguments -/

/-- A team number, 0 to 15 (R9). -/
def teamArg (b : Byte) : Option TeamNo := if h : b.toNat < 16 then some ⟨b.toNat, h⟩ else none

/-- A seat number, 0 to 127 (R34). -/
def seatArg (b : Byte) : Option SeatNo := if h : b.toNat < 128 then some ⟨b.toNat, h⟩ else none

/-- A line number, 0 to 3 (R34, R62, R135). -/
def lineArg (b : Byte) : Option LineNo := if h : b.toNat < 4 then some ⟨b.toNat, h⟩ else none

/-- A board, 0 or 1 (R160). -/
def boardArg (b : Byte) : Option BoardNo := if h : b.toNat < 2 then some ⟨b.toNat, h⟩ else none

/-- A rule id, 0 to 25 (R197). -/
def ruleArg (b : Byte) : Option RuleId := if h : b.toNat < 26 then some ⟨b.toNat, h⟩ else none

/-- A flag, 0 or 1 (R191). -/
def flagArg (b : Byte) : Option Bool := if b = 0#8 then some false else if b = 1#8 then some true else none

/-- A board source, 0 to 3 (R191). -/
def sourceArg (b : Byte) : Option BoardMode := if b.toNat < 4 then some (.ofCode b.toNat) else none

/-- The verdicts (R110, R191). -/
inductive Verdict where
  | right | wrong | pass
deriving DecidableEq, Repr

/-- A verdict, 0 to 2 (R191). -/
def verdictArg (b : Byte) : Option Verdict :=
  if b = 0#8 then some .right else if b = 1#8 then some .wrong else if b = 2#8 then some .pass else none

/-- A whole board configuration (R160). -/
def configArg (source select console hold blank : Byte) : Option BoardConfig :=
  match sourceArg source, flagArg select, flagArg console, flagArg hold, flagArg blank with
  | some source, some selectConsole, some consoleEnable, some autoHold, some autoBlank =>
    some { source, selectConsole, consoleEnable, autoHold, autoBlank }
  | _, _, _, _, _ => none

/-! ## Codes in answers (R191) -/

def RoundState.code : RoundState → Nat
  | .idle => 0 | .opened => 1 | .settling => 2 | .draining => 3 | .keywait => 4 | .closed => 5

def TeamState.code : TeamState → Nat
  | .free => 0 | .active => 1 | .benched => 2 | .retired => 3

def Presence.code : Presence → Nat
  | .absent => 0 | .present => 1 | .silent => 2

/-- The round kind; 0 for absent. -/
def kindCode : Option RoundKind → Nat
  | none => 0
  | some .buzz => 1
  | some (.poll ..) => 2

/-- The outcome; 0 for absent. -/
def outcomeCode : Option RoundOutcome → Nat
  | none => 0
  | some (.won ..) => 1
  | some .noWinner => 2
  | some .scored => 3
  | some .abandoned => 4

/-- The image kind of in flight or pending; 0 for NONE. -/
def imageCode : Option ImageKind → Nat
  | none => 0
  | some .repaint => 1
  | some .message => 2
  | some .blank => 3

/-! ## Data of the answers (R193) -/

/-- READ NOTICES, five bytes; `lost` is the CONSOLE_LOST condition as found at the request's taking (R185). -/
def noticesData (lost : Bool) (s : State) : List Byte :=
  le24 s.notices ++
    [byte (flag s.reveal.taken + 2 * flag lost + 4 * flag s.storing.isSome), byte s.round.state.code]

/-- READ TEAM, twenty bytes (R22). -/
def teamData (t : TeamNo) (s : State) : List Byte :=
  let x := s.team t
  [byte t.val,
    byte (x.state.code + 4 * flag x.locked + 8 * flag x.lastAward.isSome + 16 * flag x.rank.isSome),
    byte x.label.length] ++ padRight 8 x.label ++ le24Int x.score ++ [byte x.streak] ++ le16Int (x.lastAward.getD 0) ++
    [byte (s.memberCount t), byte (s.presentCount t), byte (x.rank.getD 0)]

/-- READ SEAT, nine bytes (R39). -/
def seatData (i : SeatNo) (s : State) : List Byte :=
  let x := s.seat i
  [byte i.val, byte (lineOf i).val, byte (localOf i).val,
    byte (flag (s.fitted i) + 2 * flag x.locked + 4 * flag x.team.isSome), byte x.presence.code] ++
    le16Nat x.countdown ++ [match x.team with | some t => byte t.val | none => 0xFF#8, byte x.lamp.code]

/-- One entry of READ ROLL (R40). -/
def rollEntry (s : State) (i : SeatNo) : List Byte :=
  let x := s.seat i
  [byte ((match x.team with | some t => t.val | none => 0) + 16 * flag x.team.isSome + 32 * flag x.locked +
      64 * flag (s.fitted i)),
    byte (x.presence.code + 4 * x.lamp.code)]

/-- The 32 seats of a line, in ascending local address. -/
def seatsOfLine (n : LineNo) : List SeatNo := (List.finRange 32).map (seatAt n)

/-- READ ROLL (R40). -/
def rollData (n : LineNo) (s : State) : List Byte := (seatsOfLine n).flatMap (rollEntry s)

/-- READ LINE, seven bytes (R62). -/
def lineData (n : LineNo) (s : State) : List Byte :=
  let l := s.line n
  [byte (flag l.held), byte l.queue.length, byte (s.rule Rule.holdUpper), byte (s.rule Rule.holdLower),
    byte (reholdFrames (s.rule Rule.reholdEvery)), byte (s.rule (Rule.lineSeats n)), byte l.outboundCount]

/-- READ ROUND, twenty-three bytes (R96). -/
def roundData (s : State) : List Byte :=
  [byte s.round.state.code, byte (kindCode s.kind), byte (outcomeCode s.round.outcome)] ++
    (match s.round.outcome with | some (.won t i) => [byte t.val, byte i.val] | _ => [0#8, 0#8]) ++
    le24Nat s.window ++ le24Nat s.closeInstant ++
    (match s.kind with | some (.poll choices key) => [byte choices, byte (key.getD 0)] | _ => [0#8, 0#8]) ++
    [byte s.round.tieStart.val] ++ le24Nat s.clock.count ++ [byte (flag s.clock.running)] ++
    le24Nat (s.clock.judgeDeadline.getD 0) ++ [byte s.ladder.length, byte s.entryCount]

/-- One claim of READ LADDER at its position (R121). -/
def claimData (position : Nat) (c : Claim) : List Byte :=
  [byte position, byte c.team.val, byte c.seat.val] ++ le24Nat c.offset ++ [byte (flag c.called + 2 * flag c.overtaken)]

/-- READ LADDER from a start position, counted from 1: the claim count and at most eight claims (R121). -/
def ladderData (start : Nat) (s : State) : List Byte :=
  byte s.ladder.length ::
    (((s.ladder.drop (start - 1)).take 8).zipIdx start).flatMap fun (c, p) => claimData p c

/-- One entry of READ SHEET, a 16-bit value (R135). -/
def sheetEntryData (e : Option SheetEntry) : List Byte :=
  match e with
  | none => [0#8, 0#8]
  | some e => le16Nat (e.offset / 1000 + 1024 * e.choice + 8192 * flag e.stale + 16384)

/-- READ SHEET (R135). -/
def sheetData (n : LineNo) (s : State) : List Byte := (seatsOfLine n).flatMap fun i => sheetEntryData (s.entry i)

/-- One entry of READ STANDINGS (R157). -/
def standingData (s : State) (t : TeamNo) : List Byte :=
  let x := s.team t
  [byte (t.val + 16 * flag (x.state = .benched) + 32 * flag x.locked), byte (x.rank.getD 0)] ++ le24Int x.score ++
    [byte x.streak, byte (s.memberCount t), byte (s.presentCount t)]

/-- READ STANDINGS from a first position, counted from 1: the listed count and the entries that exist (R157). -/
def standingsData (first count : Nat) (s : State) : List Byte :=
  byte s.standings.length :: ((s.standings.drop (first - 1)).take count).flatMap (standingData s)

/-- READ BOARD, eight bytes (R173). -/
def boardData (b : BoardNo) (s : State) : List Byte :=
  let c := s.boardConfig b
  let d := s.board b
  [byte c.source.code, byte (flag c.selectConsole), byte (flag c.consoleEnable), byte (flag c.autoHold),
    byte (flag c.autoBlank), byte d.mode.code, byte (imageCode (d.inFlight.map (·.kind))), byte (imageCode d.pending)]

end Sys2Proof.Machine
end

