-- ==== Sys2Proof/Machine/Requests.lean ====
section
/-! DEFINITION. What the owning block does with each valid request: its argument ranges, then its state, then its effect,
status and data (R179, R180). One definition per request. A refused request changes nothing. -/

namespace Sys2Proof.Machine

/-- The statuses (R180). -/
inductive Status where
  | done | clamped | badRequest | badArgument | badCheck | state | full | busy | roundActive | stale
deriving DecidableEq, Repr

/-- The status codes (R180). -/
def Status.code : Status → Nat
  | .done => 0 | .clamped => 1 | .badRequest => 2 | .badArgument => 3 | .badCheck => 4 | .state => 5 | .full => 6
  | .busy => 7 | .roundActive => 8 | .stale => 9

/-- A status and the data of the answer; refused answers carry none (R180). -/
structure Reply where
  status : Status
  data : List Byte
deriving DecidableEq, Repr

/-- A reply with no data. -/
def Status.bare (status : Status) : Reply := { status, data := [] }

/-- DONE with data. -/
def doneWith (data : List Byte) : Reply := { status := .done, data }

/-- CLAMPED when a clamp changed a value given, DONE otherwise. -/
def clampedIf (acted : Bool) : Status := if acted then .clamped else .done

/-- The state after a request's processing, and its reply. -/
abbrev Served := State × Reply

/-! ## Port and session -/

def serveKeepalive (s : State) : Served := (s, Status.done.bare)

def serveReadNotices (lost : Bool) (s : State) : Served := (s, doneWith (noticesData lost s))

/-- CLEAR NOTICES (R186). -/
def serveClearNotices (mask : BitVec 24) (s : State) : Served :=
  let cleared := { s with notices := s.notices &&& ~~~mask }
  (cleared, doneWith (le24 cleared.notices))

/-- A driver empties its last-LIVE order and voids a repaint in flight, then resolves with the round IDLE, then takes the
standings change unless its resolution has started a repaint (R172). -/
def resetBoard (b : BoardNo) (s : State) : State :=
  let d := s.board b
  let voided := s.setBoard b { d with
    lastLive := [], orderVoid := (d.inFlight.map (·.kind)) = some .repaint }
  let resolved := resolveBoard b voided
  if d.inFlight.isNone ∧ (resolved.board b).inFlight.isSome then resolved else takeStandingsChange b resolved

/-- RESET SESSION (R205, R6, R25, R57, R61, R76, R95, R172). -/
def resetSession (s : State) : State :=
  let cleared : State :=
    { s with
      teams := s.teams.map fun _ => Team.initial
      seats := s.seats.map fun x => { x with team := none, locked := false, lamp := .idle }
      round := Round.initial
      clock := Clock.initial
      ladder := []
      sheet := Vector.replicate 128 none
      standings := []
      notices := 0#24
      watchdog := .unarmed
      consoleLost := false }
  resetBoard 1 (resetBoard 0 (cleared.mapLines fun n l => if s.lineEnabled n then l.sessionReset else l))

def serveResetSession (s : State) : Served := (endEvent s (resetSession s), Status.done.bare)

/-! ## Teams -/

/-- ENROL TEAM (R9 to R11). -/
def serveEnrolTeam (team : Byte) (score : BitVec 24) (label : List Byte) (s : State) : Served :=
  match teamArg team with
  | none => (s, Status.badArgument.bare)
  | some t =>
    if (s.team t).state = .free then
      (enrolTeam t label score.toInt s, (clampedIf (clampScore score.toInt ≠ score.toInt)).bare)
    else (s, Status.state.bare)

/-- RENAME TEAM (R13). -/
def serveRenameTeam (team : Byte) (label : List Byte) (s : State) : Served :=
  match teamArg team with
  | none => (s, Status.badArgument.bare)
  | some t => if (s.team t).state = .free then (s, Status.state.bare) else (renameTeam t label s, Status.done.bare)

/-- BENCH TEAM (R14). -/
def serveBenchTeam (team : Byte) (s : State) : Served :=
  match teamArg team with
  | none => (s, Status.badArgument.bare)
  | some t =>
    if (s.team t).state = .active then (endEvent s (benchTeam t s), Status.done.bare) else (s, Status.state.bare)

/-- RECALL TEAM (R16). -/
def serveRecallTeam (team : Byte) (s : State) : Served :=
  match teamArg team with
  | none => (s, Status.badArgument.bare)
  | some t => if (s.team t).state = .benched then (recallTeam t s, Status.done.bare) else (s, Status.state.bare)

/-- RETIRE TEAM (R17). -/
def serveRetireTeam (team : Byte) (s : State) : Served :=
  match teamArg team with
  | none => (s, Status.badArgument.bare)
  | some t =>
    if (s.team t).state.listed then (endEvent s (retireTeam t s), Status.done.bare) else (s, Status.state.bare)

/-- PURGE TEAM (R20). -/
def servePurgeTeam (team : Byte) (s : State) : Served :=
  match teamArg team with
  | none => (s, Status.badArgument.bare)
  | some t => if (s.team t).state = .retired then (purgeTeam t s, Status.done.bare) else (s, Status.state.bare)

/-- READ TEAM (R22). -/
def serveReadTeam (team : Byte) (s : State) : Served :=
  match teamArg team with
  | none => (s, Status.badArgument.bare)
  | some t => (s, doneWith (teamData t s))

/-- A console change of a score: the clamped value is written and handed on, and answered with the score after (R151,
R152). -/
def changeScore (t : TeamNo) (wanted : Int) (s : State) : Served :=
  (writeScore t { s.team t with score := clampScore wanted } s,
    { status := clampedIf (clampScore wanted ≠ wanted), data := le24Int (clampScore wanted) })

/-- ADJUST SCORE (R151). -/
def serveAdjustScore (team : Byte) (delta : BitVec 24) (s : State) : Served :=
  match teamArg team with
  | none => (s, Status.badArgument.bare)
  | some t =>
    if (s.team t).state = .free then (s, Status.state.bare)
    else changeScore t ((s.team t).score + delta.toInt) s

/-- SET SCORE (R152). -/
def serveSetScore (team : Byte) (value : BitVec 24) (s : State) : Served :=
  match teamArg team with
  | none => (s, Status.badArgument.bare)
  | some t => if (s.team t).state = .free then (s, Status.state.bare) else changeScore t value.toInt s

/-! ## Seats and lines -/

/-- BIND SEAT, decided in the order of R35. -/
def serveBindSeat (seat team : Byte) (s : State) : Served :=
  match seatArg seat, teamArg team with
  | some i, some t =>
    if !(s.team t).state.listed then (s, Status.state.bare)
    else if (s.seat i).team = some t then (s, Status.done.bare)
    else if 16 ≤ s.memberCount t then (s, Status.full.bare)
    else (endEvent s (bindSeat i t s), Status.done.bare)
  | _, _ => (s, Status.badArgument.bare)

/-- UNBIND SEAT (R37). -/
def serveUnbindSeat (seat : Byte) (s : State) : Served :=
  match seatArg seat with
  | none => (s, Status.badArgument.bare)
  | some i => if (s.seat i).team.isNone then (s, Status.done.bare) else (endEvent s (unbindSeat i s), Status.done.bare)

/-- READ SEAT (R39). -/
def serveReadSeat (seat : Byte) (s : State) : Served :=
  match seatArg seat with
  | none => (s, Status.badArgument.bare)
  | some i => (s, doneWith (seatData i s))

/-- READ ROLL (R40). -/
def serveReadRoll (line : Byte) (s : State) : Served :=
  match lineArg line with
  | none => (s, Status.badArgument.bare)
  | some n => (s, doneWith (rollData n s))

/-- READ LINE (R62). -/
def serveReadLine (line : Byte) (s : State) : Served :=
  match lineArg line with
  | none => (s, Status.badArgument.bare)
  | some n => (s, doneWith (lineData n s))

/-! ## Rounds -/

/-- A taken OPEN ROUND, or its refusal at state (R78). -/
def openIfIdle (kind : RoundKind) (window : Nat) (clamped : Bool) (s : State) : Served :=
  if s.roundActive then (s, Status.roundActive.bare)
  else (endEvent s (openRound kind window s), (clampedIf clamped).bare)

/-- OPEN ROUND (R78, R79). -/
def serveOpenRound (kind : Byte) (window : BitVec 24) (choices key : Byte) (s : State) : Served :=
  let w := clampWindow window.toNat
  let wClamped : Bool := w ≠ window.toNat
  let ch := clampNat 2 6 choices.toNat
  if kind = 1#8 then openIfIdle .buzz w wClamped s
  else if kind = 2#8 then
    if ch < key.toNat then (s, Status.badArgument.bare)
    else openIfIdle (.poll ch (if key = 0#8 then none else some key.toNat)) w (wClamped || ch ≠ choices.toNat) s
  else (s, Status.badArgument.bare)

/-- CLOSE ROUND (R83). -/
def serveCloseRound (s : State) : Served :=
  if s.round.state = .opened then (enterSettling s.clock.count s, doneWith (le24Nat s.clock.count))
  else (s, Status.state.bare)

/-- ABANDON ROUND (R91). -/
def serveAbandonRound (s : State) : Served :=
  if s.roundActive then (endEvent s (closeRound .abandoned s), Status.done.bare) else (s, Status.state.bare)

/-- The highest choice that POST KEY admits (R89). -/
def keyRange (s : State) : Nat :=
  match s.kind, s.roundActive with
  | some (.poll choices _), true => choices
  | _, _ => 6

/-- POST KEY (R89). -/
def servePostKey (choice : Byte) (s : State) : Served :=
  if choice = 0#8 ∨ keyRange s < choice.toNat then (s, Status.badArgument.bare)
  else
    match s.round.state, s.kind with
    | .opened, some (.poll _ none) | .settling, some (.poll _ none) => (storeKey choice.toNat s, Status.done.bare)
    | .keywait, some (.poll _ none) =>
      (endEvent s (scoreAndClose choice.toNat (storeKey choice.toNat s)), Status.done.bare)
    | _, _ => (s, Status.state.bare)

/-- A verdict applied to the CALLED claim (R110). -/
def applyVerdict (v : Verdict) (c : Claim) (s : State) : State :=
  match v with
  | .right => judgeRight c s
  | .wrong => judgeWrong c s
  | .pass => judgePass c s

/-- JUDGE (R110). -/
def serveJudge (verdict seat : Byte) (s : State) : Served :=
  match verdictArg verdict, seatArg seat with
  | some v, some i =>
    match s.calledClaim with
    | some c => if c.seat = i then (endEvent s (applyVerdict v c s), Status.done.bare) else (s, Status.stale.bare)
    | none => (s, Status.stale.bare)
  | _, _ => (s, Status.badArgument.bare)

/-- READ ROUND (R96). -/
def serveReadRound (s : State) : Served := (s, doneWith (roundData s))

/-- READ LADDER (R121). -/
def serveReadLadder (start : Byte) (s : State) : Served :=
  if start = 0#8 ∨ 16 < start.toNat then (s, Status.badArgument.bare) else (s, doneWith (ladderData start.toNat s))

/-- READ SHEET (R135). -/
def serveReadSheet (line : Byte) (s : State) : Served :=
  match lineArg line with
  | none => (s, Status.badArgument.bare)
  | some n => (s, doneWith (sheetData n s))

/-! ## Standings and boards -/

/-- READ STANDINGS (R157). -/
def serveReadStandings (first count : Byte) (s : State) : Served :=
  if first = 0#8 ∨ 16 < first.toNat ∨ count = 0#8 ∨ 7 < count.toNat then (s, Status.badArgument.bare)
  else (s, doneWith (standingsData first.toNat count.toNat s))

/-- SET BOARD (R160). -/
def serveSetBoard (board source select console hold blank : Byte) (s : State) : Served :=
  match boardArg board, configArg source select console hold blank with
  | some b, some c => (writeRule (Rule.boardCfg b) c.pack s, Status.done.bare)
  | _, _ => (s, Status.badArgument.bare)

/-- SET MESSAGE (R161). -/
def serveSetMessage (board : Byte) (text : List Byte) (s : State) : Served :=
  match boardArg board with
  | none => (s, Status.badArgument.bare)
  | some b =>
    let stored := s.setBoard b { s.board b with message := padRight 32 (text.map printable) }
    (if (s.board b).mode = .message then sendImage b (some .message) stored else stored, Status.done.bare)

/-- READ BOARD (R173). -/
def serveReadBoard (board : Byte) (s : State) : Served :=
  match boardArg board with
  | none => (s, Status.badArgument.bare)
  | some b => (s, doneWith (boardData b s))

/-! ## Rules -/

/-- The rules that are not written while a round is active: LINE0_SEATS to LINE3_SEATS and SEAT_RATE (R197). -/
def heldInRound (r : RuleId) : Bool := 12 ≤ r.val ∧ r.val ≤ 16

/-- SET RULE (R197). -/
def serveSetRule (id : Byte) (value : BitVec 24) (s : State) : Served :=
  match ruleArg id with
  | none => (s, Status.badArgument.bare)
  | some r =>
    let v := clampRule (s.rule Rule.holdUpper) r value.toNat
    if s.storing.isSome then (s, Status.busy.bare)
    else if s.roundActive ∧ heldInRound r then (s, Status.roundActive.bare)
    else (endEvent s (writeRule r v s), { status := clampedIf (v ≠ value.toNat), data := le24Nat v })

/-- READ RULE (R199). -/
def serveReadRule (id : Byte) (s : State) : Served :=
  match ruleArg id with
  | none => (s, Status.badArgument.bare)
  | some r => (s, doneWith (le24Nat (s.rule r)))

/-- STORE RULES (R201). -/
def serveStoreRules (s : State) : Served :=
  if s.storing.isSome then (s, Status.busy.bare)
  else if s.roundActive then (s, Status.roundActive.bare)
  else ({ s with storing := some (snapshot s.rules) }, Status.done.bare)

/-- The refusal of RECALL RULES, if it is refused (R203). -/
def recallRefusal (s : State) : Option Status :=
  if s.storing.isSome then some .busy else if s.roundActive then some .roundActive else none

end Sys2Proof.Machine
end

