-- ==== Sys2Proof/Machine/Port.lean ====
section
/-! DEFINITION. The Console Port (10_console_port): write and read transactions, the request and answer slots, the
judgement of framing, and the taking of requests. -/

namespace Sys2Proof.Machine

/-! ## Writes (R176) -/

/-- How many bytes of a write are stored: both header bytes, then up to the stated length, and none when the argument
length is above 40 (R176). -/
def storedCount : List Byte → Nat
  | [] => 0
  | [_] => 1
  | h0 :: h1 :: rest => if 40 < h1.toNat then 2 else 2 + min rest.length (h1.toNat + flag h0.msb)

/-- The request slot that a write leaves; none when no byte was stored (R176). -/
def storedSlot (bytes : List Byte) : Option RequestSlot :=
  match bytes with
  | [] => none
  | [h0] => some { bytes := [h0], truncated := true, overlength := false }
  | h0 :: h1 :: rest =>
    let stated := h1.toNat + flag h0.msb
    some
      { bytes := bytes.take (storedCount bytes)
        truncated := 40 < h1.toNat ∨ rest.length < stated
        overlength := 40 < h1.toNat ∨ stated < rest.length }

/-- The acknowledge of each byte written: every byte stored, and no other (R176). -/
def byteAcks (bytes : List Byte) : List Bool :=
  List.replicate (storedCount bytes) true ++ List.replicate (bytes.length - storedCount bytes) false

/-! ## Framing (R177, R178) -/

/-- The check flag of a request: the top bit of header byte 0 (R176). -/
def RequestSlot.flagged (slot : RequestSlot) : Bool :=
  match slot.bytes with
  | [] => false
  | h0 :: _ => h0.msb

/-- The three steps of R178 on a request: the first that fails gives the refusal, and otherwise the request is valid. -/
def judgeFraming (address : BitVec 7) (checkRequired : Nat) (slot : RequestSlot) : Except Status Request :=
  if slot.truncated || slot.overlength then .error .badRequest
  else
    match slot.bytes with
    | h0 :: h1 :: rest =>
      let arguments := rest.take h1.toNat
      let due := crc8 (addressByte address false :: h0 :: h1 :: arguments)
      if (if h0.msb then rest.drop h1.toNat ≠ [due] else checkRequired = 1) then .error .badCheck
      else if h0.getLsbD 6 then .error .badRequest
      else
        match decodeRequest (h0.toNat % 64) arguments with
        | some r => .ok r
        | none => .error .badRequest
    | _ => .error .badRequest

/-! ## Answers (R180, R181) -/

/-- The bytes of an answer: status, data length, data, and the check byte when one is due (R177, R181). -/
def answerBytes (address : BitVec 7) (flagged : Bool) (r : Reply) : List Byte :=
  let body := byte r.status.code :: byte r.data.length :: r.data
  if flagged then body ++ [crc8 (addressByte address true :: body)] else body

/-- The answer is placed in its reserved slot, and the request is finished (R179). -/
def placeAnswer (flagged : Bool) (r : Reply) (s : State) : State :=
  { s with answers := s.answers ++ [answerBytes s.targetAddress flagged r], inProcess := none }

/-! ## Taking a request (R179, R190) -/

/-- The owning block's processing of a valid request; `lost` is the CONSOLE_LOST condition as it stood before the taking
(R185). A recall that is not refused gives no reply until its end (R203). -/
def serve (lost : Bool) (r : Request) (s : State) : State × Option Reply :=
  let answered (x : Served) : State × Option Reply := (x.1, some x.2)
  match r with
  | .keepalive => answered (serveKeepalive s)
  | .readNotices => answered (serveReadNotices lost s)
  | .clearNotices mask => answered (serveClearNotices mask s)
  | .resetSession => answered (serveResetSession s)
  | .enrolTeam team score label => answered (serveEnrolTeam team score label s)
  | .renameTeam team label => answered (serveRenameTeam team label s)
  | .benchTeam team => answered (serveBenchTeam team s)
  | .recallTeam team => answered (serveRecallTeam team s)
  | .retireTeam team => answered (serveRetireTeam team s)
  | .purgeTeam team => answered (servePurgeTeam team s)
  | .readTeam team => answered (serveReadTeam team s)
  | .adjustScore team delta => answered (serveAdjustScore team delta s)
  | .setScore team value => answered (serveSetScore team value s)
  | .bindSeat seat team => answered (serveBindSeat seat team s)
  | .unbindSeat seat => answered (serveUnbindSeat seat s)
  | .readSeat seat => answered (serveReadSeat seat s)
  | .readRoll line => answered (serveReadRoll line s)
  | .readLine line => answered (serveReadLine line s)
  | .openRound kind window choices key => answered (serveOpenRound kind window choices key s)
  | .closeRound => answered (serveCloseRound s)
  | .abandonRound => answered (serveAbandonRound s)
  | .postKey choice => answered (servePostKey choice s)
  | .judge verdict seat => answered (serveJudge verdict seat s)
  | .readRound => answered (serveReadRound s)
  | .readLadder start => answered (serveReadLadder start s)
  | .readSheet line => answered (serveReadSheet line s)
  | .readStandings first count => answered (serveReadStandings first count s)
  | .setBoard board source select console hold blank =>
    answered (serveSetBoard board source select console hold blank s)
  | .setMessage board text => answered (serveSetMessage board text s)
  | .readBoard board => answered (serveReadBoard board s)
  | .setRule id value => answered (serveSetRule id value s)
  | .readRule id => answered (serveReadRule id s)
  | .storeRules => answered (serveStoreRules s)
  | .recallRules =>
    match recallRefusal s with
    | some status => (s, some status.bare)
    | none => ({ s with recalling := true }, none)

/-- A valid request is taken: the watchdog and the CONSOLE_LOST condition first (R190), then the owning block, then the
answer. A recall in progress stays in process, with no answer (R203). -/
def takeValid (flagged : Bool) (r : Request) (s : State) : State :=
  match serve s.consoleLost r (requestTaken s) with
  | (t, some reply) => placeAnswer flagged reply t
  | (t, none) => { t with inProcess := some flagged }

/-- A request is taken out of its slot: judged for framing, and refused, or handed on (R178, R179). -/
def handleRequest (slot : RequestSlot) (s : State) : State :=
  match judgeFraming s.targetAddress (s.rule Rule.checkRequired) slot with
  | .error status => placeAnswer slot.flagged status.bare s
  | .ok r => takeValid slot.flagged r s

/-- The port takes the oldest request when no request is in process and an answer slot is free (R179). It does so at
once at every event that lets it (log entry 14), and with it places every answer but a recall's, so that no read meets the
port between the two (DESIGN CHOICE, log entry 25). -/
def takeRequest (s : State) : State :=
  match s.requests with
  | [] => s
  | slot :: rest =>
    if s.inProcess.isNone ∧ s.answers.length < 2 then handleRequest slot { s with requests := rest } else s

/-! ## Transactions (R175, R176, R181, R182) -/

/-- The port acknowledges the address of a write: its own address, from the end of start-up, while a request slot is
free (R175, R176, R204). -/
def State.acksWrite (s : State) (address : BitVec 7) : Bool :=
  s.phase = .running ∧ address = s.targetAddress ∧ s.requests.length < 2

/-- The port acknowledges the address of a read: its own address, from the end of start-up, while an answer is ready
(R181, R204). -/
def State.acksRead (s : State) (address : BitVec 7) : Bool :=
  s.phase = .running ∧ address = s.targetAddress ∧ s.answers ≠ []

/-- A transaction whose address is not acknowledged carries nothing (R175, R176, R181). -/
def refuseAddress (s : State) : State := { s with bus := { acknowledged := [false], shifted := [] } }

/-- A write transaction, from its address to its end, at which the request arrives (R176). R181 lets a read that begins while
a request is being taken meet either state of the port; here the answer is placed first, within this step (DESIGN CHOICE,
log entry 25). -/
def consoleWrite (address : BitVec 7) (bytes : List Byte) (s : State) : State :=
  if s.acksWrite address then
    let carried : State := { s with bus := { acknowledged := true :: byteAcks bytes, shifted := [] } }
    match storedSlot bytes with
    | none => carried
    | some slot => takeRequest { carried with requests := s.requests ++ [slot] }
  else refuseAddress s

/-- How many bytes of an answer a read can carry: the device goes on to the next byte while the console acknowledges, so
those up to the first that was not acknowledged, that one included (R181, R182). -/
def carriedCount : List Bool → Nat
  | [] => 0
  | true :: later => carriedCount later + 1
  | false :: _ => 1

/-- A read transaction, given by the console's acknowledge of each whole byte clocked: it carries the oldest ready answer.
When every byte of it was shifted out the read frees the answer, and each byte clocked after its last is 0xFF, whatever the
console acknowledges from the last byte on. A read that ends sooner, by its last clock or by a byte not acknowledged, leaves
the answer ready, and bytes clocked after that one carry nothing (R181, R182; DEDUCED, log entry 26). A byte cut short by a
START or STOP is not counted (DEDUCED, log entry 19). -/
def consoleRead (address : BitVec 7) (acks : List Bool) (s : State) : State :=
  if s.acksRead address then
    match s.answers with
    | [] => s
    | answer :: rest =>
      if answer.length ≤ carriedCount acks then
        let shifted := answer ++ List.replicate (acks.length - answer.length) 0xFF#8
        takeRequest { s with bus := { acknowledged := [true], shifted }, answers := rest }
      else { s with bus := { acknowledged := [true], shifted := answer.take (carriedCount acks) } }
  else refuseAddress s

/-- The console sends a request in one write transaction to the device's address (R176). -/
def sendRequest (check : Bool) (r : Request) (s : State) : State :=
  consoleWrite s.targetAddress (r.bytes s.targetAddress check) s

/-! ## The end of a recall (R203) -/

/-- What Rule Memory does at the end of a recall, and the status of its answer (R203). -/
def finishRecall (s : State) : State × Status :=
  if s.store.good then (endEvent s (recallWrites s.store s), .done) else (s.setNotice .rulesDefaulted, .state)

/-- A recall ends: the rules, the answer, and then a request that waited (R203, R179). -/
def recallComplete (s : State) : State :=
  match s.inProcess with
  | some flagged =>
    if s.recalling then
      let ended := finishRecall { s with recalling := false }
      takeRequest (placeAnswer flagged ended.2.bare ended.1)
    else s
  | none => s

end Sys2Proof.Machine
end

