-- ==== Sys2Proof/Machine/StartUp.lean ====
section
/-! DEFINITION. Power, RESET#, start-up (11_rule_memory_and_start_up) and the REVEAL pin (R162). -/

namespace Sys2Proof.Machine

/-- Every block is held at rest: a store or recall in progress is abandoned, the console slots are emptied, the receivers
take no characters and the transmitters and board links rest, so that a frame or an image in flight goes no further
(R174, R202 to R204). Every other register keeps its value until start-up writes it (DESIGN CHOICE, log entry 17). -/
def toRest (phase : Phase) (s : State) : State :=
  let t := abandonStore s
  { t with
    phase, recalling := false, requests := [], inProcess := none, answers := []
    lines := t.lines.map fun l => { l with receiver := .hunting, assembler := none, sending := none }
    boards := t.boards.map fun b => { b with inFlight := none, pending := none } }

/-- Power comes to an unpowered device, which rests until the supply and crystal are stable (R204). -/
def powerOn (s : State) : State := if s.phase = .off then { s with phase := .rest } else s

/-- Power fails (R202, R203). -/
def powerLoss (s : State) : State := if s.phase = .off then s else toRest .off s

/-- RESET# falls on a powered device (R204). -/
def resetPinLow (s : State) : State := if s.phase = .off then s else toRest .rest s

/-- The target address that the ADDR pins select: 0x5C plus twice ADDR1 plus ADDR0 (R175). -/
def pinAddress (addr1 addr0 : Bool) : BitVec 7 := BitVec.ofNat 7 (0x5C + 2 * flag addr1 + flag addr0)

/-- Start-up begins: steps 1 to 3 of R204. The board drivers take their power-on values, and the boards keep what they
show (R158, R164). -/
def startUp (addr1 addr0 : Bool) (s : State) : State :=
  if s.phase = .rest then
    State.powerOnValues (if s.store.good then loadedRules s.store else Rules.default) s.store (pinAddress addr1 addr0)
      s.reveal.pin s.pending s.freeIndex (s.boards.map fun b => { Board.initial with shown := b.shown })
      (if s.store.good then 0#24 else rulesDefaultedOnly) s.bus
  else s

/-- A driver resolves its start-up mode and enters it (R172). -/
def startBoard (b : BoardNo) (s : State) : State := enterMode b (s.resolvedMode b) s

/-- Start-up ends: steps 4 and 5 of R204, and the port acknowledges from now on. -/
def startUpEnd (s : State) : State :=
  if s.phase = .startUp then
    kickLines (startBoard 1 (startBoard 0 (queueMarks .closed { s with phase := .running })))
  else s

/-- The level on the REVEAL pin changes (R162). -/
def revealPinChange (level : Bool) (s : State) : State := { s with reveal := { s.reveal with pin := level } }

/-- The pin has held a new level for 10 ms, and both drivers resolve (R162, R163). Before the end of start-up, which lasts
5 ms, no level is taken. -/
def revealLevelTaken (s : State) : State :=
  if s.phase = .running ∧ s.reveal.pin ≠ s.reveal.taken then
    resolveBoards { s with reveal := { s.reveal with taken := s.reveal.pin } }
  else s

end Sys2Proof.Machine
end

