-- ==== Sys2Proof/Machine/DeviceRows.lean ====
section
/-! DEFINITION. The meanings of the rows of the table that are not console requests: power and pins, transactions, and
the events of the device's own timers, compares and lines. A row of an event that the state does not raise changes
nothing (log entry 4). -/

namespace Sys2Proof.Machine

/-! ## Power and pins -/

/-- POWER_ON (R204). -/
def execPowerOn (s : State) : Host.Outcome State Fault Refusal := .next (powerOn s)

/-- POWER_LOSS (R202, R203). -/
def execPowerLoss (s : State) : Host.Outcome State Fault Refusal := .next (powerLoss s)

/-- RESET_PIN_LOW (R204). -/
def execResetPinLow (s : State) : Host.Outcome State Fault Refusal := .next (resetPinLow s)

/-- START_UP (R204). -/
def execStartUp (addr1 addr0 : Bool) (s : State) : Host.Outcome State Fault Refusal := .next (startUp addr1 addr0 s)

/-- START_UP_END (R204). -/
def execStartUpEnd (s : State) : Host.Outcome State Fault Refusal := .next (startUpEnd s)

/-- REVEAL_LEVEL_TAKEN (R162). -/
def execRevealLevelTaken (s : State) : Host.Outcome State Fault Refusal := .next (revealLevelTaken s)

/-- REVEAL_PIN_CHANGE (R162). -/
def execRevealPinChange (level : Bool) (s : State) : Host.Outcome State Fault Refusal := .next (revealPinChange level s)

/-! ## Console transactions -/

/-- CONSOLE_WRITE (R176). -/
def execConsoleWrite (address : BitVec 7) (bytes : List Byte) (s : State) : Host.Outcome State Fault Refusal :=
  .next (consoleWrite address bytes s)

/-- CONSOLE_READ (R181, R182). -/
def execConsoleRead (address : BitVec 7) (acks : List Bool) (s : State) : Host.Outcome State Fault Refusal :=
  .next (consoleRead address acks s)

/-- REQUEST_FRAMING_REFUSAL (R178): the bytes reach the port in a write to its address, and the framing steps refuse them
when the request is taken (log entry 13). -/
def execRequestFramingRefusal (bytes : List Byte) (s : State) : Host.Outcome State Fault Refusal :=
  .next (consoleWrite s.targetAddress bytes s)

/-! ## Rule Memory and watchdog -/

/-- STORE_COMPLETE (R202). -/
def execStoreComplete (s : State) : Host.Outcome State Fault Refusal := .next (storeComplete s)

/-- RECALL_COMPLETE (R203). -/
def execRecallComplete (s : State) : Host.Outcome State Fault Refusal := .next (recallComplete s)

/-- WATCHDOG_EXPIRY (R189). -/
def execWatchdogExpiry (s : State) : Host.Outcome State Fault Refusal := .next (watchdogExpiry s)

/-! ## Seat lines -/

/-- Whether a character would complete the partial frame of a line: three characters wait and it is no lead (R44). -/
def completesFrame (n : LineNo) (char : Byte) (s : State) : Bool :=
  !char.msb && (match (s.line n).assembler with | some p => p.characters.length = 3 | none => false)

/-- SEAT_FRAME (R46): the character that ends on the line is the fourth of a frame, which is judged
(log entry 10). -/
def execSeatFrame (line : LineNo) (char : Byte) (s : State) : Host.Outcome State Fault Refusal :=
  .next (if completesFrame line char s then characterEnd line char s else s)

/-- CHARACTER_RECEIVED (R44). -/
def execCharacterReceived (line : LineNo) (char : Byte) (s : State) : Host.Outcome State Fault Refusal :=
  .next (characterEnd line char s)

/-- START_EDGE (R42, R50). -/
def execStartEdge (line : LineNo) (falseStart : Bool) (s : State) : Host.Outcome State Fault Refusal :=
  .next (startEdge line falseStart s)

/-- GAP_LIMIT (R45). -/
def execGapLimit (line : LineNo) (s : State) : Host.Outcome State Fault Refusal := .next (gapLimit line s)

/-- SEAT_TABLE_TAKE (R28). -/
def execSeatTableTake (line : LineNo) (s : State) : Host.Outcome State Fault Refusal := .next (seatTableTake line s)

/-- HOUSEKEEPING_EXPIRY (R27, R74). -/
def execHousekeepingExpiry (s : State) : Host.Outcome State Fault Refusal := .next (housekeepingExpiry s)

/-- DOWNSTREAM_FRAME_END (R60). -/
def execDownstreamFrameEnd (line : LineNo) (s : State) : Host.Outcome State Fault Refusal :=
  .next (downstreamFrameEnd line s)

/-! ## Round clock and compares -/

/-- ROUND_CLOCK_STEP (R64). -/
def execRoundClockStep (s : State) : Host.Outcome State Fault Refusal := .next (roundClockStep s)

/-- CLOCK_SATURATION (R67). -/
def execClockSaturation (s : State) : Host.Outcome State Fault Refusal := .next (clockSaturation s)

/-- WINDOW_END (R70, R82). -/
def execWindowEnd (s : State) : Host.Outcome State Fault Refusal := .next (windowEnd s)

/-- SETTLING_END (R85, R87). -/
def execSettlingEnd (s : State) : Host.Outcome State Fault Refusal := .next (settlingEnd s)

/-- CALL (R72, R107). -/
def execCall (s : State) : Host.Outcome State Fault Refusal := .next (callEvent s)

/-- JUDGE_DEADLINE (R73, R116). -/
def execJudgeDeadline (s : State) : Host.Outcome State Fault Refusal := .next (judgeDeadlineEvent s)

/-! ## Board links -/

/-- TRANSFER_END (R166). -/
def execTransferEnd (board : BoardNo) (s : State) : Host.Outcome State Fault Refusal := .next (transferEnd board s)

end Sys2Proof.Machine
end

