-- ==== Sys2Proof/Machine/RequestRows.lean ====
section
/-! DEFINITION. The meanings of the request rows of the table: each is the console's sending of that request, by its wire
format, to the device's address. What the port and the owning block then do is `consoleWrite`, `takeRequest` and `serve`. -/

namespace Sys2Proof.Machine

/-- KEEPALIVE (R187). -/
def execKeepalive (check : Bool) (s : State) : Host.Outcome State Fault Refusal :=
  .next (sendRequest check .keepalive s)

/-- READ_NOTICES (R185). -/
def execReadNotices (check : Bool) (s : State) : Host.Outcome State Fault Refusal :=
  .next (sendRequest check .readNotices s)

/-- CLEAR_NOTICES (R186). -/
def execClearNotices (check : Bool) (mask : BitVec 24) (s : State) : Host.Outcome State Fault Refusal :=
  .next (sendRequest check (.clearNotices mask) s)

/-- RESET_SESSION (R205). -/
def execResetSession (check : Bool) (s : State) : Host.Outcome State Fault Refusal :=
  .next (sendRequest check .resetSession s)

/-- ENROL_TEAM (R11). -/
def execEnrolTeam (check : Bool) (team : Byte) (score : BitVec 24) (label : List Byte) (s : State) :
    Host.Outcome State Fault Refusal :=
  .next (sendRequest check (.enrolTeam team score label) s)

/-- RENAME_TEAM (R13). -/
def execRenameTeam (check : Bool) (team : Byte) (label : List Byte) (s : State) : Host.Outcome State Fault Refusal :=
  .next (sendRequest check (.renameTeam team label) s)

/-- BENCH_TEAM (R14). -/
def execBenchTeam (check : Bool) (team : Byte) (s : State) : Host.Outcome State Fault Refusal :=
  .next (sendRequest check (.benchTeam team) s)

/-- RECALL_TEAM (R16). -/
def execRecallTeam (check : Bool) (team : Byte) (s : State) : Host.Outcome State Fault Refusal :=
  .next (sendRequest check (.recallTeam team) s)

/-- RETIRE_TEAM (R17). -/
def execRetireTeam (check : Bool) (team : Byte) (s : State) : Host.Outcome State Fault Refusal :=
  .next (sendRequest check (.retireTeam team) s)

/-- PURGE_TEAM (R20). -/
def execPurgeTeam (check : Bool) (team : Byte) (s : State) : Host.Outcome State Fault Refusal :=
  .next (sendRequest check (.purgeTeam team) s)

/-- READ_TEAM (R22). -/
def execReadTeam (check : Bool) (team : Byte) (s : State) : Host.Outcome State Fault Refusal :=
  .next (sendRequest check (.readTeam team) s)

/-- ADJUST_SCORE (R151). -/
def execAdjustScore (check : Bool) (team : Byte) (delta : BitVec 24) (s : State) : Host.Outcome State Fault Refusal :=
  .next (sendRequest check (.adjustScore team delta) s)

/-- SET_SCORE (R152). -/
def execSetScore (check : Bool) (team : Byte) (value : BitVec 24) (s : State) : Host.Outcome State Fault Refusal :=
  .next (sendRequest check (.setScore team value) s)

/-- BIND_SEAT (R35). -/
def execBindSeat (check : Bool) (seat team : Byte) (s : State) : Host.Outcome State Fault Refusal :=
  .next (sendRequest check (.bindSeat seat team) s)

/-- UNBIND_SEAT (R37). -/
def execUnbindSeat (check : Bool) (seat : Byte) (s : State) : Host.Outcome State Fault Refusal :=
  .next (sendRequest check (.unbindSeat seat) s)

/-- READ_SEAT (R39). -/
def execReadSeat (check : Bool) (seat : Byte) (s : State) : Host.Outcome State Fault Refusal :=
  .next (sendRequest check (.readSeat seat) s)

/-- READ_ROLL (R40). -/
def execReadRoll (check : Bool) (line : Byte) (s : State) : Host.Outcome State Fault Refusal :=
  .next (sendRequest check (.readRoll line) s)

/-- READ_LINE (R62). -/
def execReadLine (check : Bool) (line : Byte) (s : State) : Host.Outcome State Fault Refusal :=
  .next (sendRequest check (.readLine line) s)

/-- OPEN_ROUND (R79). -/
def execOpenRound (check : Bool) (kind : Byte) (window : BitVec 24) (choices key : Byte) (s : State) :
    Host.Outcome State Fault Refusal :=
  .next (sendRequest check (.openRound kind window choices key) s)

/-- CLOSE_ROUND (R83). -/
def execCloseRound (check : Bool) (s : State) : Host.Outcome State Fault Refusal :=
  .next (sendRequest check .closeRound s)

/-- ABANDON_ROUND (R91). -/
def execAbandonRound (check : Bool) (s : State) : Host.Outcome State Fault Refusal :=
  .next (sendRequest check .abandonRound s)

/-- POST_KEY (R89). -/
def execPostKey (check : Bool) (choice : Byte) (s : State) : Host.Outcome State Fault Refusal :=
  .next (sendRequest check (.postKey choice) s)

/-- JUDGE (R110). -/
def execJudge (check : Bool) (verdict seat : Byte) (s : State) : Host.Outcome State Fault Refusal :=
  .next (sendRequest check (.judge verdict seat) s)

/-- READ_ROUND (R96). -/
def execReadRound (check : Bool) (s : State) : Host.Outcome State Fault Refusal :=
  .next (sendRequest check .readRound s)

/-- READ_LADDER (R121). -/
def execReadLadder (check : Bool) (start : Byte) (s : State) : Host.Outcome State Fault Refusal :=
  .next (sendRequest check (.readLadder start) s)

/-- READ_SHEET (R135). -/
def execReadSheet (check : Bool) (line : Byte) (s : State) : Host.Outcome State Fault Refusal :=
  .next (sendRequest check (.readSheet line) s)

/-- READ_STANDINGS (R157). -/
def execReadStandings (check : Bool) (first count : Byte) (s : State) : Host.Outcome State Fault Refusal :=
  .next (sendRequest check (.readStandings first count) s)

/-- SET_BOARD (R160). -/
def execSetBoard (check : Bool) (board source select console hold blank : Byte) (s : State) :
    Host.Outcome State Fault Refusal :=
  .next (sendRequest check (.setBoard board source select console hold blank) s)

/-- SET_MESSAGE (R161). -/
def execSetMessage (check : Bool) (board : Byte) (text : List Byte) (s : State) : Host.Outcome State Fault Refusal :=
  .next (sendRequest check (.setMessage board text) s)

/-- READ_BOARD (R173). -/
def execReadBoard (check : Bool) (board : Byte) (s : State) : Host.Outcome State Fault Refusal :=
  .next (sendRequest check (.readBoard board) s)

/-- SET_RULE (R197). -/
def execSetRule (check : Bool) (id : Byte) (value : BitVec 24) (s : State) : Host.Outcome State Fault Refusal :=
  .next (sendRequest check (.setRule id value) s)

/-- READ_RULE (R199). -/
def execReadRule (check : Bool) (id : Byte) (s : State) : Host.Outcome State Fault Refusal :=
  .next (sendRequest check (.readRule id) s)

/-- STORE_RULES (R201). -/
def execStoreRules (check : Bool) (s : State) : Host.Outcome State Fault Refusal :=
  .next (sendRequest check .storeRules s)

/-- RECALL_RULES (R203). -/
def execRecallRules (check : Bool) (s : State) : Host.Outcome State Fault Refusal :=
  .next (sendRequest check .recallRules s)

end Sys2Proof.Machine
end

