-- ==== Sys2Proof/Machine/Dispatch.lean ====
section
/-! DEFINITION. The meaning of every command of the table, one arm each. -/

namespace Sys2Proof.Machine

def exec (i : Instr) (s : State) : Host.Outcome State Fault Refusal :=
  match i with
  | .powerOn => Sys2Proof.Machine.execPowerOn s
  | .powerLoss => Sys2Proof.Machine.execPowerLoss s
  | .resetPinLow => Sys2Proof.Machine.execResetPinLow s
  | .startUp addr1 addr0 => Sys2Proof.Machine.execStartUp addr1 addr0 s
  | .startUpEnd => Sys2Proof.Machine.execStartUpEnd s
  | .consoleWrite address bytes => Sys2Proof.Machine.execConsoleWrite address bytes s
  | .consoleRead address acks => Sys2Proof.Machine.execConsoleRead address acks s
  | .requestFramingRefusal bytes => Sys2Proof.Machine.execRequestFramingRefusal bytes s
  | .keepalive check => Sys2Proof.Machine.execKeepalive check s
  | .readNotices check => Sys2Proof.Machine.execReadNotices check s
  | .clearNotices check mask => Sys2Proof.Machine.execClearNotices check mask s
  | .resetSession check => Sys2Proof.Machine.execResetSession check s
  | .enrolTeam check team score label => Sys2Proof.Machine.execEnrolTeam check team score label s
  | .renameTeam check team label => Sys2Proof.Machine.execRenameTeam check team label s
  | .benchTeam check team => Sys2Proof.Machine.execBenchTeam check team s
  | .recallTeam check team => Sys2Proof.Machine.execRecallTeam check team s
  | .retireTeam check team => Sys2Proof.Machine.execRetireTeam check team s
  | .purgeTeam check team => Sys2Proof.Machine.execPurgeTeam check team s
  | .readTeam check team => Sys2Proof.Machine.execReadTeam check team s
  | .adjustScore check team delta => Sys2Proof.Machine.execAdjustScore check team delta s
  | .setScore check team value => Sys2Proof.Machine.execSetScore check team value s
  | .bindSeat check seat team => Sys2Proof.Machine.execBindSeat check seat team s
  | .unbindSeat check seat => Sys2Proof.Machine.execUnbindSeat check seat s
  | .readSeat check seat => Sys2Proof.Machine.execReadSeat check seat s
  | .readRoll check line => Sys2Proof.Machine.execReadRoll check line s
  | .readLine check line => Sys2Proof.Machine.execReadLine check line s
  | .openRound check kind window choices key => Sys2Proof.Machine.execOpenRound check kind window choices key s
  | .closeRound check => Sys2Proof.Machine.execCloseRound check s
  | .abandonRound check => Sys2Proof.Machine.execAbandonRound check s
  | .postKey check choice => Sys2Proof.Machine.execPostKey check choice s
  | .judge check verdict seat => Sys2Proof.Machine.execJudge check verdict seat s
  | .readRound check => Sys2Proof.Machine.execReadRound check s
  | .readLadder check start => Sys2Proof.Machine.execReadLadder check start s
  | .readSheet check line => Sys2Proof.Machine.execReadSheet check line s
  | .readStandings check first count => Sys2Proof.Machine.execReadStandings check first count s
  | .setBoard check board source select console hold blank => Sys2Proof.Machine.execSetBoard check board source select console hold blank s
  | .setMessage check board text => Sys2Proof.Machine.execSetMessage check board text s
  | .readBoard check board => Sys2Proof.Machine.execReadBoard check board s
  | .setRule check id value => Sys2Proof.Machine.execSetRule check id value s
  | .readRule check id => Sys2Proof.Machine.execReadRule check id s
  | .storeRules check => Sys2Proof.Machine.execStoreRules check s
  | .recallRules check => Sys2Proof.Machine.execRecallRules check s
  | .storeComplete => Sys2Proof.Machine.execStoreComplete s
  | .recallComplete => Sys2Proof.Machine.execRecallComplete s
  | .watchdogExpiry => Sys2Proof.Machine.execWatchdogExpiry s
  | .revealLevelTaken => Sys2Proof.Machine.execRevealLevelTaken s
  | .seatFrame line char => Sys2Proof.Machine.execSeatFrame line char s
  | .gapLimit line => Sys2Proof.Machine.execGapLimit line s
  | .seatTableTake line => Sys2Proof.Machine.execSeatTableTake line s
  | .housekeepingExpiry => Sys2Proof.Machine.execHousekeepingExpiry s
  | .downstreamFrameEnd line => Sys2Proof.Machine.execDownstreamFrameEnd line s
  | .roundClockStep => Sys2Proof.Machine.execRoundClockStep s
  | .clockSaturation => Sys2Proof.Machine.execClockSaturation s
  | .windowEnd => Sys2Proof.Machine.execWindowEnd s
  | .settlingEnd => Sys2Proof.Machine.execSettlingEnd s
  | .call => Sys2Proof.Machine.execCall s
  | .judgeDeadline => Sys2Proof.Machine.execJudgeDeadline s
  | .transferEnd board => Sys2Proof.Machine.execTransferEnd board s
  | .startEdge line falseStart => Sys2Proof.Machine.execStartEdge line falseStart s
  | .characterReceived line char => Sys2Proof.Machine.execCharacterReceived line char s
  | .revealPinChange level => Sys2Proof.Machine.execRevealPinChange level s

end Sys2Proof.Machine
end

