-- ==== Sys2Proof/Safety.lean ====
section
/-! DEFINITION. What the spec says holds of the device's state at every moment, as the predicates that claims use; and
the conditions under which the console port takes a request at once, with the state its owning block then finds. -/

namespace Sys2Proof.Machine

/-! ## What always holds -/

/-- A predicate that every step keeps, from every state that has it. -/
def KeptByStep (inv : State → Prop) : Prop := ∀ s t, inv s → step s = .next t → inv t

/-- The fields of a team record stay in their ranges (R1, R2, R10). -/
abbrev Team.InRange (x : Team) : Prop :=
  -9999 ≤ x.score ∧ x.score ≤ 99999 ∧ x.streak ≤ 99 ∧ x.label.length ≤ 8 ∧ ∀ c ∈ x.label, 0x20#8 ≤ c ∧ c ≤ 0x7E#8

/-- Every team record is in range. -/
abbrev TeamsInRange (s : State) : Prop := ∀ t, (s.team t).InRange

/-- Every working rule lies in its range, HOLD_LOWER below HOLD_UPPER (R196). -/
abbrev RulesInRange (s : State) : Prop :=
  ∀ r, ruleLow r ≤ s.rule r ∧ s.rule r ≤ ruleHigh (s.rule Rule.holdUpper) r

/-- The eleven rules that a round copied lie in their rules' ranges (R80, R196). -/
abbrev RuleCopy.InRange (c : RuleCopy) : Prop :=
  c.buzzRight ≤ 1000 ∧ c.buzzWrong ≤ 1000 ∧ c.pollBase ≤ 1000 ∧ c.pollSpeed ≤ 1000 ∧ c.pollWrong ≤ 1000 ∧
    c.streakCap ≤ 4 ∧ c.callSettle ≤ 127 ∧ 1000 ≤ c.judgeWindow ∧ c.judgeWindow ≤ 600000 ∧ c.earlyPolicy ≤ 1 ∧
    c.timeoutAs ≤ 1 ∧ c.answerLock ≤ 1

/-- Every last award lies between −1000 and 4000 (R1), beside the rules and the rule copy that awards come from. -/
abbrev AwardsInRange (s : State) : Prop :=
  RulesInRange s ∧ (∀ body ∈ s.round.body, body.copy.InRange) ∧
    ∀ t, ∀ award ∈ (s.team t).lastAward, -1000 ≤ award ∧ award ≤ 4000

/-- The answer slots in use: the ready answers, and the one reserved for the request in process (R174). -/
def State.answerSlotsUsed (s : State) : Nat := s.answers.length + (if s.inProcess.isSome then 1 else 0)

/-- The bounds of the console port's slots, and what holds while a recall runs (R174, R176, R179, R203). -/
abbrev PortBounded (s : State) : Prop :=
  s.requests.length ≤ 2 ∧ s.answerSlotsUsed ≤ 2 ∧ (∀ slot ∈ s.requests, slot.bytes.length ≤ 43) ∧
    (∀ a ∈ s.answers, a.length ≤ 67) ∧ (s.requests ≠ [] → s.inProcess.isSome ∨ s.answers.length = 2) ∧
    (s.inProcess.isSome ↔ s.recalling = true) ∧
    (s.recalling = true → s.storing = none ∧ s.roundActive = false)

/-- The bounds of a line's queues, counters and assembler (R41, R51, R59); every queued frame is of the line's seats. -/
abbrev Line.Bounded (n : LineNo) (l : Line) : Prop :=
  l.queue.length ≤ 16 ∧ (∀ f ∈ l.queue, lineOf f.seat = n ∧ f.key < 16 ∧ f.age < 128) ∧ l.rehold ≤ 15 ∧
    (l.entries.filter (·.isMark)).length ≤ 1 ∧
    (∀ addr, (l.entries.filter (OutEntry.isLampOf addr)).length ≤ 1) ∧
    (∀ p, l.assembler = some p → 1 ≤ p.characters.length ∧ p.characters.length ≤ 3)

/-- No transmitter rests while its queue holds an entry (R60). -/
abbrev TransmittersBusy (s : State) : Prop := ∀ n, (s.line n).sending = none → (s.line n).outboundCount = 0

/-- Every line is within its bounds, and while the device works its transmitters are busy. -/
abbrev LinesBounded (s : State) : Prop :=
  (∀ n, (s.line n).Bounded n) ∧ (s.powered = true → TransmittersBusy s)

/-- What a disabled line holds: nothing (R48). -/
abbrev Line.Empty (l : Line) : Prop :=
  l.receiver = .hunting ∧ l.assembler = none ∧ l.queue = [] ∧ l.held = false ∧ l.rehold = 0 ∧ l.flow = none ∧
    l.entries = []

/-- Every disabled line is empty (R48). -/
abbrev DisabledLinesEmpty (s : State) : Prop := ∀ n, s.lineEnabled n = false → (s.line n).Empty

/-- The flow states agree with the receive queues and the thresholds (R53, R55, R56). -/
abbrev FlowAgrees (s : State) : Prop :=
  ∀ n, if (s.line n).held then s.rule Rule.holdLower < (s.line n).queue.length
    else (s.line n).queue.length < s.rule Rule.holdUpper

/-- The three together: each is kept by a step only beside the others. -/
abbrev LinesInOrder (s : State) : Prop := RulesInRange s ∧ DisabledLinesEmpty s ∧ FlowAgrees s

/-- Bits 17 to 23 of the notice word are 0 (R183). -/
abbrev NoticesBounded (s : State) : Prop := s.notices.toNat < 2 ^ 17

/-- The Standings list holds each listed team once, in order, and the ranks agree with it (R5, R153, R154). -/
abbrev StandingsInOrder (s : State) : Prop :=
  s.standings.Nodup ∧ (∀ t, t ∈ s.standings ↔ (s.team t).state.listed = true) ∧
    s.standings.Pairwise (fun t u =>
      (s.team u).score < (s.team t).score ∨ ((s.team t).score = (s.team u).score ∧ t < u)) ∧
    ∀ t, (s.team t).rank =
      if (s.team t).state.listed then
        some (1 + (s.standings.filter fun u => (s.team t).score < (s.team u).score).length)
      else none

/-- A PRESENT seat's countdown is running and any other seat's is 0 (R23, R27). -/
abbrev Seat.CountdownInRange (x : Seat) : Prop :=
  if x.presence = .present then 1 ≤ x.countdown ∧ x.countdown ≤ 600 else x.countdown = 0

/-- Every countdown is in range, beside the rules that reload it. -/
abbrev CountdownsInRange (s : State) : Prop := RulesInRange s ∧ ∀ i, (s.seat i).CountdownInRange

/-- Seats are bound to listed teams alone, and a team has at most 16 members (R3, R8, R35). -/
abbrev BindingsInOrder (s : State) : Prop :=
  (∀ i t, (s.seat i).team = some t → (s.team t).state.listed = true) ∧ ∀ t, s.memberCount t ≤ 16

/-- The two board drivers (R158, R163 to R166): lengths, the one pending image behind a transfer in flight and of the
mode's kind, and in operation the effective mode that the configuration and the state give. -/
abbrev BoardsInOrder (s : State) : Prop :=
  ∀ b, (s.board b).message.length = 32 ∧ (∀ t, (s.board b).inFlight = some t → t.image.length = 256) ∧
    (∀ k, (s.board b).pending = some k → (s.board b).inFlight.isSome ∧ (s.board b).mode.image = some k) ∧
    (s.phase = .running → (s.board b).mode = s.resolvedMode b)

/-- A claim's team is ACTIVE and its seat bound to that team (R97, R98). -/
abbrev Claim.Stands (s : State) (c : Claim) : Prop :=
  (s.team c.team).state = .active ∧ (s.seat c.seat).team = some c.team

/-- The order of two claims on the ladder (R98, R99). -/
abbrev Claim.Before (tieStart : TeamNo) (c d : Claim) : Prop :=
  c.team ≠ d.team ∧ d.called = false ∧
    (c.called = true ∨ c.offset < d.offset ∨
      (c.offset = d.offset ∧ tiePosition tieStart c.team < tiePosition tieStart d.team))

/-- What the call and judge-deadline compares hold for a ladder (R72, R73). -/
abbrev ComparesFollowLadder (s : State) : Prop :=
  (s.ladder = [] → s.clock.call = none ∧ s.clock.judgeDeadline = none) ∧
    ∀ head ∈ s.ladder.head?,
      if head.called then s.clock.call = none ∧ s.clock.judgeDeadline.isSome
      else s.clock.call = some (head.offset + s.copy.callSettle) ∧ s.clock.judgeDeadline = none

/-- The ladder: claims only in a BUZZ round in OPEN, SETTLING or DRAINING, one per team, in order, at most the head
CALLED, and the two compares as it gives (R72, R73, R98). -/
abbrev LadderInOrder (s : State) : Prop :=
  s.ladder.Pairwise (Claim.Before s.round.tieStart) ∧ (∀ c ∈ s.ladder, c.Stands s) ∧ ComparesFollowLadder s ∧
    (s.ladder ≠ [] → s.kind = some .buzz ∧
      (s.round.state = .opened ∨ s.round.state = .settling ∨ s.round.state = .draining)) ∧
    (s.round.state = .draining → s.ladder ≠ [])

/-- The round record and its window and settling compares (R64, R70, R71, R75); locks stand in an active round alone
(R4, R31). -/
abbrev RoundInOrder (s : State) : Prop :=
  (s.round.body = none ↔ s.round.state = .idle) ∧ (s.round.outcome.isSome ↔ s.round.state = .closed) ∧
    s.clock.count ≤ maxCount ∧ (s.clock.running = true → s.roundActive = true) ∧
    s.clock.windowEnd = (if s.round.state = .opened then some s.window else none) ∧
    s.clock.settlingEnd = (if s.round.state = .settling then some (s.closeInstant + 128) else none) ∧
    (∀ t, (s.team t).locked = true → s.roundActive = true) ∧ (∀ i, (s.seat i).locked = true → s.roundActive = true)

/-- An unbound seat holds no lock, no answer and no lit lamp (R33, R37, R122). -/
abbrev UnboundSeatsClear (s : State) : Prop :=
  ∀ i, (s.seat i).team = none → (s.seat i).locked = false ∧ s.entry i = none ∧ (s.seat i).lamp = .idle

/-- The whole state of a contest: records, round and ladder together. -/
abbrev ContestInOrder (s : State) : Prop :=
  BindingsInOrder s ∧ RoundInOrder s ∧ LadderInOrder s ∧ UnboundSeatsClear s

/-- The fields of the round record in their ranges (R75, R78, R83), and in OPEN the window end armed at the window, which
is the close instant, with the count not past it (R70). -/
abbrev RoundBodyInRange (s : State) : Prop :=
  (∀ body ∈ s.round.body, 100 ≤ body.window ∧ body.window ≤ 1000000 ∧ body.closeInstant ≤ body.window) ∧
    (match s.kind with
      | some (.poll choices key) => decide (2 ≤ choices ∧ choices ≤ 6) && key.all fun k => 1 ≤ k ∧ k ≤ choices
      | _ => true) = true ∧
    (s.round.state = .opened →
      s.closeInstant = s.window ∧ s.clock.windowEnd = some s.window ∧ s.clock.count ≤ s.window)

/-- A press offset that the round still admits: at or below the close instant, and in OPEN at or below the count (R98,
R122). -/
abbrev OffsetInRound (s : State) (offset : Nat) : Prop :=
  offset ≤ s.closeInstant ∧ (s.round.state = .opened → offset ≤ s.clock.count)

/-- The choice of a sheet entry is one of the round's, which is a POLL round (R122). -/
def choiceInRound (s : State) (e : SheetEntry) : Bool :=
  match s.kind with
  | some (.poll choices _) => 1 ≤ e.choice ∧ e.choice ≤ choices
  | _ => false

/-- The round record's ranges, with every claim's and every answer's offset within the round, and answers only to the
choices of a POLL round (R98, R122). -/
abbrev OffsetsInOrder (s : State) : Prop :=
  RoundBodyInRange s ∧ (∀ c ∈ s.ladder, OffsetInRound s c.offset) ∧
    ∀ i, ∀ e ∈ s.entry i, choiceInRound s e = true ∧ OffsetInRound s e.offset

/-- Every predicate above at once. -/
abbrev InOrder (s : State) : Prop :=
  TeamsInRange s ∧ AwardsInRange s ∧ PortBounded s ∧ LinesBounded s ∧ LinesInOrder s ∧ NoticesBounded s ∧
    StandingsInOrder s ∧ CountdownsInRange s ∧ BoardsInOrder s ∧ ContestInOrder s ∧ OffsetsInOrder s

/-! ## What several claims say of an event -/

/-- How a board stands after taking one standings change (R167): only a LIVE board acts, with a repaint of the Standings
as they stand after the change, which starts at once or is pending behind the transfer in flight. What the image of a
transfer shows is `ShowsStandings`. -/
abbrev BoardTookChange (before after : State) (b : BoardNo) : Prop :=
  after.board b =
    if (before.board b).mode = .live then
      if (before.board b).inFlight.isSome then { before.board b with pending := some .repaint }
      else { before.board b with inFlight := some (after.newTransfer b .repaint), orderVoid := false }
    else before.board b

/-- How a board enters an effective mode that differs from its own (R164, R165): the mode's image starts at once, or is
pending behind the transfer in flight; entry to HOLD starts nothing and leaves none pending. -/
def enteredMode (before after : State) (b : BoardNo) (m : BoardMode) : Board :=
  if (before.board b).inFlight.isSome then { before.board b with mode := m, pending := m.image }
  else
    match m.image with
    | some kind => { before.board b with mode := m, inFlight := some (after.newTransfer b kind), orderVoid := false }
    | none => { before.board b with mode := m }

/-- How a board stands after an event that let it resolve its mode (R163, R164): unless the mode differs, untouched. -/
abbrev BoardResolved (before after : State) (b : BoardNo) : Prop :=
  after.board b =
    if after.resolvedMode b = (before.board b).mode then before.board b
    else enteredMode before after b (after.resolvedMode b)

/-- How a board stands after RESET SESSION (R172): its last-LIVE order empty, a repaint in flight void, its mode resolved
with the round IDLE, and the standings change taken unless the resolution has started a repaint. -/
abbrev BoardWasReset (before after : State) (b : BoardNo) : Prop :=
  let d := before.board b
  let m := after.resolvedMode b
  let voided : Board := { d with mode := m, lastLive := [], orderVoid := d.inFlight.map (·.kind) = some .repaint }
  after.board b =
    if d.inFlight.isSome then
      { voided with pending := if m = .live then some .repaint else if m = d.mode then d.pending else m.image }
    else if m = .live then { voided with inFlight := some (after.newTransfer b .repaint), orderVoid := false }
    else if m = d.mode then voided
    else
      match m.image with
      | some kind => { voided with inFlight := some (after.newTransfer b kind), orderVoid := false }
      | none => voided

/-- The character that a score shows at the place of tens power `p`, from 0 for the last column: a digit, the "-" before
the first digit of a negative score, or a space (R168). -/
def scoreColumn (score : Int) (p : Nat) : Byte :=
  let a := score.natAbs
  if p = 0 ∨ 10 ^ p ≤ a then byte (0x30 + a / 10 ^ p % 10)
  else if score < 0 ∧ (p = 1 ∨ 10 ^ (p - 1) ≤ a) then 0x2D#8
  else 0x20#8

/-- The change marker of the team at place `k`, counted from 0, against the last-LIVE order (R169): a space for a team that
is not in it, "v" for one that stood before place `k`, "=" at it, "^" behind it. -/
def markerColumn (lastLive : List TeamNo) (t : TeamNo) (k : Nat) : Byte :=
  if t ∉ lastLive then 0x20#8
  else if t ∈ lastLive.take k then 0x76#8
  else if lastLive[k]? = some t then 0x3D#8
  else 0x5E#8

/-- The name that a team shows (R168): its label, or "TEAM nn" where that is absent. -/
def shownName (t : TeamNo) (label : List Byte) : List Byte :=
  if label = [] then [0x54#8, 0x45#8, 0x41#8, 0x4D#8, 0x20#8, byte (0x30 + t.val / 10), byte (0x30 + t.val % 10)]
  else label

/-- Line `k` of an image, counted from 0, shows the team at place `k` of the Standings in the columns of R168, and is blank
where there is none. -/
def showsLine (s : State) (lastLive : List TeamNo) (image : List Byte) (k : Nat) : Bool :=
  let column (c : Nat) := image[16 * k + c]?
  match s.standings[k]? with
  | none => (List.range 16).all fun c => column c = some 0x20#8
  | some t =>
    let x := s.team t
    let rank := x.rank.getD 0
    column 0 = some (if rank < 10 then 0x20#8 else byte (0x30 + rank / 10)) &&
      column 1 = some (byte (0x30 + rank % 10)) && column 2 = some (markerColumn lastLive t k) &&
      ((List.range 8).all fun c => column (3 + c) = some ((shownName t x.label)[c]?.getD 0x20#8)) &&
      (List.range 5).all fun p => column (15 - p) = some (scoreColumn x.score p)

/-- The 256 characters of a repaint: sixteen lines of the Standings as they stand (R168, R169). -/
abbrev ShowsStandings (s : State) (lastLive : List TeamNo) (image : List Byte) : Prop :=
  image.length = 256 ∧ ∀ k < 16, showsLine s lastLive image k = true

/-- A flow entry queued on a line whose resting transmitter has nothing else to send: it is sent at once, or waits first
behind the frame in flight (R59, R60). -/
def Line.flowQueued (f : Flow) (l : Line) : Line :=
  if l.sending.isSome then { l with flow := some f } else { l with sending := some (.flow f) }

/-- A line to which the flow thresholds are applied at once (R56), while its resting transmitter has nothing to send: a HELD
line at or below `lower` queues GO and is NORMAL, a NORMAL one at or above `upper` queues HOLD and is HELD, each with the
re-hold counter cleared. -/
def Line.thresholdsMet (upper lower : Nat) (l : Line) : Line :=
  if l.held then
    if l.queue.length ≤ lower then ({ l with held := false, rehold := 0 } : Line).flowQueued .go else l
  else if upper ≤ l.queue.length then ({ l with held := true, rehold := 0 } : Line).flowQueued .hold
  else l

/-- What the Seat Table's take of a frame leaves when no block acts on it as a press (R26, R28, R55), while no resting
transmitter has an entry to send: the frame leaves the queue and may release a HELD line; the seat's presence, countdown
and SEAT_CHANGE; and nothing else. `rest` is the queue behind the frame. -/
def frameTaken (n : LineNo) (f : SeatFrame) (rest : List SeatFrame) (s : State) : State :=
  let presence : Presence := if f.kind = .leave then .absent else .present
  let taken : Line := { s.line n with queue := rest }
  { s with
    lines := s.lines.set n
      (if taken.held = true ∧ rest.length ≤ s.rule Rule.holdLower then
        ({ taken with held := false, rehold := 0 } : Line).flowQueued .go
      else taken)
    seats := s.seats.set f.seat { s.seat f.seat with
      presence := presence, countdown := if f.kind = .leave then 0 else s.rule Rule.silenceLimit }
    notices := if presence = (s.seat f.seat).presence then s.notices else s.notices ||| 0x20#24 }

/-- What the events of a contest leave alone, whichever of them closes a round or moves a claim: labels, presence, the
receiving side of the lines, message texts and last-LIVE orders; and, put as an equation, every part of the device but the
records, lines, clock, round, ladder, sheet, Standings, boards, notices, answers, watchdog and condition. -/
abbrev ContestFrame (before after : State) : Prop :=
  (∀ t, (after.team t).label = (before.team t).label) ∧
    (∀ i, (after.seat i).presence = (before.seat i).presence ∧ (after.seat i).countdown = (before.seat i).countdown) ∧
    (∀ n, { after.line n with flow := none, entries := [], sending := none } =
      { before.line n with flow := none, entries := [], sending := none }) ∧
    (∀ b, (after.board b).message = (before.board b).message ∧ (after.board b).lastLive = (before.board b).lastLive) ∧
    { after with
      teams := before.teams, seats := before.seats, lines := before.lines, clock := before.clock, round := before.round
      ladder := before.ladder, sheet := before.sheet, standings := before.standings, boards := before.boards
      notices := before.notices, answers := before.answers, bus := before.bus, watchdog := before.watchdog
      consoleLost := before.consoleLost } = before

/-- What a round that closes leaves (R66, R93): the outcome, no lock, no claim, a clock stopped at its count with every
compare disarmed, ROUND_CLOSED, and on every enabled line the CLOSED mark, as the one mark that its keypads will next
take: behind the frame in flight, or, where the transmitter rested, perhaps already being sent (R61). -/
abbrev RoundClosed (before after : State) (outcome : RoundOutcome) : Prop :=
  after.round = { before.round with state := .closed, outcome := some outcome } ∧ after.ladder = [] ∧
    after.clock = { Clock.initial with count := before.clock.count } ∧
    (∀ t, (after.team t).locked = false) ∧ (∀ i, (after.seat i).locked = false) ∧
    after.notice .roundClosed = true ∧
    (before.roundActive = true → ∀ n, before.lineEnabled n = true →
      let queued : Prop := (after.line n).entries.find? (·.isMark) = some (.mark .closed)
      if (before.line n).sending.isSome then queued ∧ (after.line n).sending = (before.line n).sending
      else queued ∨ (after.line n).sending = some (.mark .closed))

/-- A changed ladder leaves the calling as it was, with the lamps that the event wrote. -/
abbrev NoCall (before after : State) (lamp : SeatNo → Lamp) : Prop :=
  after.notice .claimCalled = before.notice .claimCalled ∧ ∀ i, (after.seat i).lamp = lamp i

/-- How a changed ladder that is not empty serves its head (R69, R72, R107): behind a CALLED head the call compare is
withdrawn. A WAITING head whose target is past is called at once, with its lamp, its judge deadline and CLAIM_CALLED; and
otherwise the call compare is armed for it. `lamp` is what the event wrote before any call. -/
abbrev HeadServed (before after : State) (ladder : List Claim) (lamp : SeatNo → Lamp) : Prop :=
  ∀ head ∈ ladder.head?,
    let target := head.offset + before.copy.callSettle
    if head.called then
      after.ladder = ladder ∧ NoCall before after lamp ∧ after.clock = { before.clock with call := none }
    else if target ≤ before.clock.count then
      after.ladder = { head with called := true } :: ladder.tail ∧ after.notice .claimCalled = true ∧
        (∀ i, (after.seat i).lamp = if i = head.seat then .called else lamp i) ∧
        after.clock = { before.clock with
          call := none, judgeDeadline := some (before.clock.count + before.copy.judgeWindow) }
    else
      after.ladder = ladder ∧ NoCall before after lamp ∧
        after.clock = { before.clock with call := some target, judgeDeadline := none }

/-- How the ladder goes on after the claim `gone` has left it, with the lamps that the event wrote for it (R72, R107, R114,
R118, R119): the other claims stay in their order and their head is served; with no claim left the call compare is withdrawn,
and in DRAINING the round closes NO_WINNER. -/
abbrev LadderWentOn (before after : State) (gone : Claim) (lamp : SeatNo → Lamp) : Prop :=
  let left := before.ladder.filter (·.team ≠ gone.team)
  (left = [] → NoCall before after lamp ∧
    if before.round.state = .draining then RoundClosed before after .noWinner
    else after.ladder = [] ∧ after.round = before.round ∧
      after.clock = { before.clock with call := none, judgeDeadline := none }) ∧
  (left ≠ [] → after.round = before.round ∧ HeadServed before after left lamp)

/-- How the claim `made` joins the ladder, in place of its team's WAITING claim where there is one (R98, R104, R105, R108):
among the other claims, which stay as they are, in the order of the ladder; and the head is served. -/
abbrev LadderJoined (before after : State) (made : Claim) (lamp : SeatNo → Lamp) : Prop :=
  let others := before.ladder.filter (·.team ≠ made.team)
  ∃ k ≤ others.length, (others.take k ++ made :: others.drop k).Pairwise (Claim.Before before.round.tieStart) ∧
    HeadServed before after (others.take k ++ made :: others.drop k) lamp

/-- The points of a seat in a POLL round with a key (R145): none without an answer; for the key POLL_BASE, and without the
stale mark the bonus, which falls from POLL_SPEED at offset 0 to 0 at the window; for another choice −POLL_WRONG. -/
def pollPoints (s : State) (key : Nat) (i : SeatNo) : Int :=
  match s.entry i with
  | none => 0
  | some e =>
    if e.choice ≠ key then -(s.copy.pollWrong : Int)
    else if e.stale then (s.copy.pollBase : Int)
    else (s.copy.pollBase + s.copy.pollSpeed * (s.window - e.offset) / s.window : Nat)

/-- What POLL scoring with a key makes of a team (R139, R145 to R149), the arithmetic written out: the sum of its seats'
points over the number of its seats that are PRESENT or hold an answer, to the nearest whole number with halves away from
zero; a total above 0 by the quarters of the streak. A team that is not ACTIVE keeps its record, and the close clears
every lock. -/
def polledRecord (s : State) (key : Nat) (t : TeamNo) : Team :=
  let x := s.team t
  let seats := (List.finRange 128).filter fun i => (s.seat i).team = some t
  let sum : Int := (seats.map (pollPoints s key)).sum
  let d : Int := (seats.filter fun i => (s.seat i).presence = .present ∨ (s.entry i).isSome).length
  let total : Int := if d = 0 then 0 else if 0 ≤ sum then (2 * sum + d) / (2 * d) else -((2 * -sum + d) / (2 * d))
  let award : Int := if 0 < total then total * (4 + min x.streak s.copy.streakCap : Nat) / 4 else total
  if x.state = .active then
    { x with
      score := if x.score + award < -9999 then -9999 else if 99999 < x.score + award then 99999 else x.score + award
      streak := if 0 < total then min 99 (x.streak + 1) else 0
      lastAward := some award, locked := false }
  else { x with locked := false }

/-! ## A request taken at once -/

/-- The port takes a request sent now at once, and framing admits it with or without a check byte: the device is in
operation, no request waits or is in process, an answer slot is free (R176, R178, R179). -/
abbrev PortReady (check : Bool) (s : State) : Prop :=
  s.phase = .running ∧ s.requests = [] ∧ s.inProcess = none ∧ s.answers.length < 2 ∧
    (check = false → s.rule Rule.checkRequired = 0)

/-- The record of a write transaction whose address and whose `count` bytes were all acknowledged (R176). -/
def allAcked (count : Nat) : BusRecord := { acknowledged := List.replicate (count + 1) true, shifted := [] }

/-- The state after a request's bytes have all been acknowledged and the port has taken it from its slot. -/
def written (check : Bool) (r : Request) (s : State) : State :=
  { s with bus := allAcked (r.bytes s.targetAddress check).length }

/-- The state that the owning block of a valid request finds: the bytes acknowledged, the watchdog restarted and the
CONSOLE_LOST condition cleared (R176, R190). -/
def received (check : Bool) (r : Request) (s : State) : State := requestTaken (written check r s)

/-- The state with one more ready answer (R180, R181). -/
def answered (check : Bool) (status : Status) (data : List Byte) (s : State) : State :=
  { s with answers := s.answers ++ [answerBytes s.targetAddress check { status, data }] }

end Sys2Proof.Machine
end

