-- ==== Sys2Proof/WellFormed.lean ====
section
/-! DEFINITION. What the types of `Instr` do not already enforce of a command: the lengths that R192 gives the label and
the message, and the shape that tells two rows of the table apart. A command that is not well formed still has a meaning
(the port answers BAD_REQUEST to a label of 9 characters); these checks say which commands the table's rows describe. -/

namespace Sys2Proof

/-- The lengths of R192: a label of at most 8 characters, a message of at most 32. -/
def Request.wf : Request → Bool
  | .enrolTeam _ _ label => label.length ≤ 8
  | .renameTeam _ label => label.length ≤ 8
  | .setMessage _ text => text.length ≤ 32
  | _ => true

/-- A request row carries a well-formed request; a framing refusal carries at least one byte, since a write with no byte
stored makes no request (R176); the character that completes a seat frame is no lead character (R44). -/
def Instr.wf (i : Instr) : Bool :=
  match i.request? with
  | some (_, r) => r.wf
  | none =>
    match i with
    | .requestFramingRefusal bytes => !bytes.isEmpty
    | .seatFrame _ char => !char.msb
    | _ => true

end Sys2Proof
end

