-- ==== Sys2Proof/Certificates/Slice0/Obligations.lean ====
section
/-! DEFINITION. The statements about the model, for the provers. In a statement about a console request, `c` says whether
the request carries its check byte, and `received c r s` is the state that the owning block finds: `s` with the bytes
acknowledged, the watchdog restarted and the CONSOLE_LOST condition cleared. A frame is written as an equation: the next
state with the named fields put back is the state before. -/

open Sys2Proof Sys2Proof.Machine

/-! ## The step, and reset -/

/-- A step runs the command at the front of the queue on the state with the queue's rest (the MODEL's queue, log entry
20). -/
def Obligations.StepTakesFrontCommand : Prop :=
  ∀ (i : Instr) (rest : List Instr) (s : State),
    step { s with pending := i :: rest } = exec i { s with pending := rest }

/-- Every command completes in every state, and none touches the queue of commands. That a row whose event is not raised
completes with no effect is the model's choice (log entry 4). -/
def Obligations.EveryCommandCompletes : Prop :=
  ∀ (i : Instr) (s : State), ∃ t, exec i s = .next t ∧ t.pending = s.pending

/-- The reset state has every property that steps keep. The instant of reset is the model's choice (log entry 3). -/
def Obligations.ResetIsInOrder : Prop := InOrder State.reset

/-- What reset leaves of the records, as start-up lists them (R204). That reset is the end of a start-up which found
no good rule store, hence RULES_DEFAULTED and a low ALERT#, is the model's choice (log entry 3). -/
def Obligations.ResetLeavesPowerOnValues : Prop :=
  let s := State.reset
  (∀ t, s.team t = { state := .free, label := [], score := 0, streak := 0, lastAward := none, locked := false,
                     rank := none }) ∧
    (∀ i, s.seat i = { presence := .absent, countdown := 0, team := none, locked := false, lamp := .idle }) ∧
    s.round = { state := .idle, body := none, outcome := none, tieStart := 0 } ∧
    s.clock = { count := 0, running := false, windowEnd := none, settlingEnd := none, call := none,
                judgeDeadline := none } ∧
    s.ladder = [] ∧ (∀ i, s.entry i = none) ∧ s.standings = [] ∧
    (∀ n, (s.line n).held = false ∧ (s.line n).queue = [] ∧ (s.line n).outboundCount = 0 ∧
      (s.line n).sending = some (.mark .closed)) ∧
    s.requests = [] ∧ s.answers = [] ∧ s.inProcess = none ∧ s.watchdog = .unarmed ∧ s.consoleLost = false ∧
    (∀ k, s.notice k = true ↔ k = .rulesDefaulted) ∧ s.alertLow = true

/-! ## Properties that every step keeps -/

/-- Every step keeps the ranges of the team records (R2), of the working rules (R196) and of the notice word (R183); and,
beside the rules and the round's rule copy, of the last awards (R1). -/
def Obligations.RangesAreKept : Prop :=
  KeptByStep TeamsInRange ∧ KeptByStep RulesInRange ∧ KeptByStep NoticesBounded ∧ KeptByStep AwardsInRange

/-- Every step keeps the bounds of the console port's slots (R174). -/
def Obligations.PortStaysBounded : Prop := KeptByStep PortBounded

/-- Every step keeps the bounds of the receive and outbound queues (R51, R59) and the transmitters busy (R60). -/
def Obligations.LinesStayBounded : Prop := KeptByStep LinesBounded

/-- Every step keeps disabled lines empty (R48) and the flow states in step with the thresholds (R53, R55, R56). -/
def Obligations.LinesStayInOrder : Prop := KeptByStep LinesInOrder

/-- Every step keeps the Standings list and the ranks as R153 and R154 say. -/
def Obligations.StandingsStayInOrder : Prop := KeptByStep StandingsInOrder

/-- Every step keeps the silence countdowns running for PRESENT seats alone (R23, R27). -/
def Obligations.CountdownsStayInRange : Prop := KeptByStep CountdownsInRange

/-- Every step keeps seats bound to listed teams alone, at most 16 to a team (R3, R8, R35). -/
def Obligations.BindingsStayInOrder : Prop := KeptByStep BindingsInOrder

/-- Every step keeps each board's effective mode resolved and its one pending image of that mode (R163 to R166). -/
def Obligations.BoardsStayInOrder : Prop := KeptByStep BoardsInOrder

/-- Every step keeps the round record, the ladder, the compares, the locks and the unbound seats in order together
(R31, R72, R75, R98). Every step keeps the round record's fields in their ranges, and every claim's and every answer's press
offset at or below the close instant and, in OPEN, the count, with answers only to the choices of a POLL round (R98, R122). -/
def Obligations.ContestStaysInOrder : Prop := KeptByStep ContestInOrder ∧ KeptByStep OffsetsInOrder

/-! ## The console port -/

/-- Decoding the code and the arguments of a well-formed request gives the request, and nothing else decodes to it. -/
def Obligations.RequestsDecodeAsEncoded : Prop :=
  ∀ (code : Nat) (arguments : List Byte) (r : Request),
    decodeRequest code arguments = some r ↔ r.wf = true ∧ code = r.code.toNat ∧ arguments = r.arguments

/-- Every request row, sent while the port is ready, is acknowledged whole, passes framing and is handed on at once. A
row is one whole write with a right check by the model's reading (log entries 6, 14 and 25). -/
def Obligations.RequestRowsAreTaken : Prop :=
  ∀ (i : Instr) (c : Bool) (r : Request) (s : State),
    i.request? = some (c, r) → r.wf = true → PortReady c s → exec i s = .next (takeValid c r (written c r s))

/-- Every request row, sent while a request slot is free but no request can be taken, waits in its slot with its bytes
and with neither mark; nothing else changes, the watchdog included. -/
def Obligations.RequestRowsWait : Prop :=
  ∀ (i : Instr) (c : Bool) (r : Request) (s : State),
    i.request? = some (c, r) → r.wf = true → s.phase = .running → s.requests.length < 2 →
      s.inProcess.isSome ∨ 2 ≤ s.answers.length →
      exec i s = .next { written c r s with
        requests := s.requests ++ [{ bytes := r.bytes s.targetAddress c, truncated := false, overlength := false }] }

/-- A write to another address, before the end of start-up or while both request slots are occupied, and a read with no
answer ready, are not acknowledged and carry nothing (R175, R176, R181). A read carries the oldest answer, byte after byte
while the console acknowledges, and 0xFF after its last byte. A read of all its bytes frees it, whatever the acknowledge of
the last, and a waiting request is then taken; one that ends sooner, or has a byte before the last not acknowledged, leaves
it (R181, R182). That nothing is carried after such a byte is the model's reading (log entry 26). -/
def Obligations.TransactionsAreAcknowledgedOrNot : Prop :=
  (∀ (address : BitVec 7) (bytes : List Byte) (acks : List Bool) (s : State),
      (s.phase ≠ .running ∨ address ≠ s.targetAddress ∨ 2 ≤ s.requests.length →
        exec (.consoleWrite address bytes) s = .next { s with bus := { acknowledged := [false], shifted := [] } }) ∧
      (s.phase ≠ .running ∨ address ≠ s.targetAddress ∨ s.answers = [] →
        exec (.consoleRead address acks) s = .next { s with bus := { acknowledged := [false], shifted := [] } })) ∧
  (∀ (acks : List Bool) (answer : List Byte) (rest : List (List Byte)) (s : State),
      s.phase = .running → s.answers = answer :: rest →
      let read := exec (.consoleRead s.targetAddress acks) s
      let carried (shifted : List Byte) : State := { s with bus := { acknowledged := [true], shifted := shifted } }
      let all := carried ((List.range acks.length).map fun k => (answer[k]?).getD 0xFF#8)
      let acked (k : Nat) : Prop := ∀ j < k, acks[j]? = some true
      let complete : Prop := answer.length ≤ acks.length ∧ acked (answer.length - 1)
      (complete → s.requests = [] ∨ s.inProcess.isSome → read = .next { all with answers := rest }) ∧
      (complete → s.inProcess = none → rest.length < 2 → ∀ slot later, s.requests = slot :: later →
        read = .next (handleRequest slot { all with answers := rest, requests := later })) ∧
      (acks.length < answer.length → acked acks.length → read = .next (carried (answer.take acks.length))) ∧
      (∀ k < answer.length - 1, acked k → acks[k]? = some false → read = .next (carried (answer.take (k + 1)))))

/-- A write that must wait is stored byte by byte as R176 says: up to the stated length, two bytes of an argument length
above 40, with the marks; and a write of no byte makes no request. -/
def Obligations.WritesAreStored : Prop :=
  ∀ (h0 h1 : Byte) (rest : List Byte) (s : State),
    s.phase = .running → s.requests.length < 2 → s.inProcess.isSome ∨ 2 ≤ s.answers.length →
    let write (bytes : List Byte) := exec (.consoleWrite s.targetAddress bytes) s
    let stated := h1.toNat + (if h0.msb then 1 else 0)
    write [] = .next { s with bus := { acknowledged := [true], shifted := [] } } ∧
    write [h0] = .next { s with
      bus := { acknowledged := [true, true], shifted := [] }
      requests := s.requests ++ [{ bytes := [h0], truncated := true, overlength := false }] } ∧
    (40 < h1.toNat → write (h0 :: h1 :: rest) = .next { s with
      bus := { acknowledged := [true, true, true] ++ List.replicate rest.length false, shifted := [] }
      requests := s.requests ++ [{ bytes := [h0, h1], truncated := true, overlength := true }] }) ∧
    (h1.toNat ≤ 40 → write (h0 :: h1 :: rest) = .next { s with
      bus := { acknowledged := [true, true, true] ++ (List.range rest.length).map (fun k => decide (k < stated)), shifted := [] }
      requests := s.requests ++
        [{ bytes := h0 :: h1 :: rest.take stated, truncated := rest.length < stated,
           overlength := stated < rest.length }] })

/-- The framing steps of R178 in their order, on a write of at least both header bytes that the port takes at once:
each refusal changes nothing but the answer slots, the watchdog included. The row REQUEST_FRAMING_REFUSAL is such a
write by the model's reading (log entry 13). -/
def Obligations.FramingRefusals : Prop :=
  ∀ (h0 h1 : Byte) (rest : List Byte) (s : State),
    s.phase = .running → s.requests = [] → s.inProcess = none → s.answers.length < 2 →
    let bytes := h0 :: h1 :: rest
    let arguments := rest.take h1.toNat
    let wellLong : Prop := h1.toNat ≤ 40 ∧ rest.length = h1.toNat + (if h0.msb then 1 else 0)
    let checked : Prop :=
      if h0.msb then rest.getLast? = some (crc8 (addressByte s.targetAddress false :: h0 :: h1 :: arguments))
      else s.rule Rule.checkRequired ≠ 1
    let known : Prop := h0.getLsbD 6 = false ∧ (decodeRequest (h0.toNat % 64) arguments).isSome = true
    let refused (status : Status) : Prop :=
      ∃ bus, exec (.requestFramingRefusal bytes) s = .next { answered h0.msb status [] s with bus := bus } ∧
        exec (.consoleWrite s.targetAddress bytes) s = .next { answered h0.msb status [] s with bus := bus }
    (¬ wellLong → refused .badRequest) ∧ (wellLong → ¬ checked → refused .badCheck) ∧
      (wellLong → checked → ¬ known → refused .badRequest)

/-- The taking of a valid request (R190), seen at KEEPALIVE, which does nothing else (R187): the condition is cleared and
both boards resolve, the watchdog restarts in REPORT or SAFE and is left in OFF, and the answer is DONE. -/
def Obligations.KeepaliveActsForTheWatchdog : Prop :=
  ∀ (c : Bool) (s : State), PortReady c s →
    ∃ t, exec (.keepalive c) s = .next t ∧ t.consoleLost = false ∧
      t.watchdog =
        (if s.rule Rule.watchMode = 0 then s.watchdog
          else .running (watchMilliseconds (s.rule Rule.watchInterval))) ∧
      t.answers = s.answers ++ [answerBytes s.targetAddress c { status := .done, data := [] }] ∧
      (if s.consoleLost then ∀ b, BoardResolved s t b else t.boards = s.boards) ∧
      { t with consoleLost := s.consoleLost, watchdog := s.watchdog, answers := s.answers, boards := s.boards,
               bus := s.bus } = s

/-- READ NOTICES and CLEAR NOTICES (R185, R186): the word, REVEAL, the condition as found before the taking, a store in
progress and the round's state; the word after the clear. After the clear, and after a write of NOTICE_MASK, ALERT# is low
exactly while a set notice has its mask bit 1 (R184). -/
def Obligations.NoticesAreReadAndCleared : Prop :=
  ∀ (c : Bool) (mask : BitVec 24) (s : State), PortReady c s →
    let u := received c .readNotices s
    let v := received c (.clearNotices mask) s
    exec (.readNotices c) s = .next (answered c .done
      (le24 s.notices ++
        [byte ((if s.reveal.taken then 1 else 0) + (if s.consoleLost then 2 else 0) +
            (if s.storing.isSome then 4 else 0)),
          byte s.round.state.code]) u) ∧
    exec (.clearNotices c mask) s =
      .next (answered c .done (le24 (s.notices &&& ~~~mask)) { v with notices := s.notices &&& ~~~mask }) ∧
    (NoticesBounded s →
      (∃ w, exec (.clearNotices c mask) s = .next w ∧
        (w.alertLow = true ↔ ∃ k : Notice, w.notice k = true ∧ (s.rule Rule.noticeMask).testBit k.bit = true)) ∧
      (s.storing = none → ∃ w, exec (.setRule c 24#8 mask) s = .next w ∧ w.notices = s.notices ∧
        (w.alertLow = true ↔ ∃ k : Notice, s.notice k = true ∧ mask.getLsbD k.bit = true)))

/-! ## Reads -/

/-- READ TEAM, READ SEAT, READ ROLL and READ LINE answer DONE with the layouts of R193 and change nothing else. -/
def Obligations.RecordReads : Prop :=
  ∀ (c : Bool) (t : TeamNo) (i : SeatNo) (n : LineNo) (s : State), PortReady c s →
    let flag (b : Bool) (weight : Nat) := if b then weight else 0
    let x := s.team t
    let y := s.seat i
    let l := s.line n
    exec (.readTeam c (byte t.val)) s = .next (answered c .done
      ([byte t.val,
        byte (x.state.code + flag x.locked 4 + flag x.lastAward.isSome 8 + flag x.rank.isSome 16),
        byte x.label.length] ++ padRight 8 x.label ++ le24Int x.score ++ [byte x.streak] ++
        le16Int (x.lastAward.getD 0) ++ [byte (s.memberCount t), byte (s.presentCount t), byte (x.rank.getD 0)])
      (received c (.readTeam (byte t.val)) s)) ∧
    exec (.readSeat c (byte i.val)) s = .next (answered c .done
      ([byte i.val, byte (i.val / 32), byte (i.val % 32),
        byte (flag (s.fitted i) 1 + flag y.locked 2 + flag y.team.isSome 4), byte y.presence.code] ++
        le16Nat y.countdown ++ [match y.team with | some u => byte u.val | none => 0xFF#8, byte y.lamp.code])
      (received c (.readSeat (byte i.val)) s)) ∧
    exec (.readRoll c (byte n.val)) s = .next (answered c .done
      ((List.finRange 32).flatMap fun a =>
        let z := s.seat (seatAt n a)
        [byte ((match z.team with | some u => u.val | none => 0) + flag z.team.isSome 16 + flag z.locked 32 +
            flag (s.fitted (seatAt n a)) 64),
          byte (z.presence.code + 4 * z.lamp.code)])
      (received c (.readRoll (byte n.val)) s)) ∧
    exec (.readLine c (byte n.val)) s = .next (answered c .done
      [byte (flag l.held 1), byte l.queue.length, byte (s.rule Rule.holdUpper), byte (s.rule Rule.holdLower),
        byte (reholdFrames (s.rule Rule.reholdEvery)), byte (s.rule (Rule.lineSeats n)), byte l.outboundCount]
      (received c (.readLine (byte n.val)) s))

/-- READ ROUND, READ LADDER and READ SHEET, and then READ STANDINGS, READ BOARD and READ RULE, answer DONE with the
layouts of R193 and change nothing else. A board's mode and images are those after the taking of the request. -/
def Obligations.ContestReads : Prop :=
  (∀ (c : Bool) (p : Nat) (n : LineNo) (s : State), PortReady c s → 1 ≤ p → p ≤ 16 →
      exec (.readRound c) s = .next (answered c .done
        ([byte s.round.state.code,
          byte (match s.kind with | none => 0 | some .buzz => 1 | some (.poll ..) => 2),
          byte (match s.round.outcome with
            | none => 0 | some (.won ..) => 1 | some .noWinner => 2 | some .scored => 3 | some .abandoned => 4)] ++
          (match s.round.outcome with | some (.won t i) => [byte t.val, byte i.val] | _ => [0#8, 0#8]) ++
          le24Nat s.window ++ le24Nat s.closeInstant ++
          (match s.kind with | some (.poll choices key) => [byte choices, byte (key.getD 0)] | _ => [0#8, 0#8]) ++
          [byte s.round.tieStart.val] ++ le24Nat s.clock.count ++ [if s.clock.running then 1#8 else 0#8] ++
          le24Nat (s.clock.judgeDeadline.getD 0) ++ [byte s.ladder.length, byte s.entryCount])
        (received c .readRound s)) ∧
      exec (.readLadder c (byte p)) s = .next (answered c .done
        (byte s.ladder.length :: (List.range 8).flatMap fun k =>
          match s.ladder[p - 1 + k]? with
          | none => []
          | some d =>
            [byte (p + k), byte d.team.val, byte d.seat.val] ++ le24Nat d.offset ++
              [byte ((if d.called then 1 else 0) + (if d.overtaken then 2 else 0))])
        (received c (.readLadder (byte p)) s)) ∧
      exec (.readSheet c (byte n.val)) s = .next (answered c .done
        ((List.finRange 32).flatMap fun a =>
          match s.entry (seatAt n a) with
          | none => [0#8, 0#8]
          | some e => le16Nat (e.offset / 1000 + 1024 * e.choice + (if e.stale then 8192 else 0) + 16384))
        (received c (.readSheet (byte n.val)) s))) ∧
  (∀ (c : Bool) (p k : Nat) (b : BoardNo) (r : RuleId) (s : State),
      PortReady c s → 1 ≤ p → p ≤ 16 → 1 ≤ k → k ≤ 7 →
      let u := received c (.readBoard (byte b.val)) s
      let v := s.rule (Rule.boardCfg b)
      exec (.readStandings c (byte p) (byte k)) s = .next (answered c .done
        (byte s.standings.length :: (List.range k).flatMap fun j =>
          match s.standings[p - 1 + j]? with
          | none => []
          | some t =>
            let x := s.team t
            [byte (t.val + (if x.state = .benched then 16 else 0) + (if x.locked then 32 else 0)),
              byte (x.rank.getD 0)] ++ le24Int x.score ++
              [byte x.streak, byte (s.memberCount t), byte (s.presentCount t)])
        (received c (.readStandings (byte p) (byte k)) s)) ∧
      exec (.readBoard c (byte b.val)) s = .next (answered c .done
        [byte (v % 4), byte (v / 4 % 2), byte (v / 8 % 2), byte (v / 16 % 2), byte (v / 32 % 2),
          byte (u.board b).mode.code, byte (imageCode ((u.board b).inFlight.map (·.kind))),
          byte (imageCode (u.board b).pending)] u) ∧
      exec (.readRule c (byte r.val)) s = .next (answered c .done (le24Nat (s.rule r))
        (received c (.readRule (byte r.val)) s)))

/-! ## Refusals by the owning block -/

/-- An argument outside its range is refused with BAD_ARGUMENT and no data, and the owning block changes nothing. The key
of OPEN ROUND is judged against the clamped choices (R78), and that of POST KEY in an active POLL round against the round's
(R89), which are at most 6 where the round record is in its ranges. -/
def Obligations.BadArgumentsAreRefused : Prop :=
  ∀ (c : Bool) (x y : Byte) (v : BitVec 24) (label : List Byte) (s : State), PortReady c s → label.length ≤ 8 →
    let refused (i : Instr) : Prop := ∀ r, i.request? = some (c, r) →
      exec i s = .next (answered c .badArgument [] (received c r s))
    (16 ≤ x.toNat → refused (.enrolTeam c x v label) ∧ refused (.renameTeam c x label) ∧ refused (.benchTeam c x) ∧
      refused (.recallTeam c x) ∧ refused (.retireTeam c x) ∧ refused (.purgeTeam c x) ∧ refused (.readTeam c x) ∧
      refused (.adjustScore c x v) ∧ refused (.setScore c x v) ∧ refused (.bindSeat c y x)) ∧
    (128 ≤ x.toNat → refused (.bindSeat c x y) ∧ refused (.unbindSeat c x) ∧ refused (.readSeat c x) ∧
      refused (.judge c y x)) ∧
    (4 ≤ x.toNat → refused (.readRoll c x) ∧ refused (.readLine c x) ∧ refused (.readSheet c x)) ∧
    (2 < x.toNat → refused (.judge c x y)) ∧ (x = 0#8 ∨ 2 < x.toNat → refused (.openRound c x v y y)) ∧
    (2 ≤ x.toNat → refused (.setBoard c x 0#8 0#8 0#8 0#8 0#8) ∧ refused (.setMessage c x label) ∧
      refused (.readBoard c x) ∧ refused (.setBoard c 0#8 0#8 x 0#8 0#8 0#8) ∧
      refused (.setBoard c 0#8 0#8 0#8 x 0#8 0#8) ∧ refused (.setBoard c 0#8 0#8 0#8 0#8 x 0#8) ∧
      refused (.setBoard c 0#8 0#8 0#8 0#8 0#8 x)) ∧
    (4 ≤ x.toNat → refused (.setBoard c 0#8 x 0#8 0#8 0#8 0#8)) ∧
    ((if y.toNat < 2 then 2 else if 6 < y.toNat then 6 else y.toNat) < x.toNat → refused (.openRound c 2#8 v y x)) ∧
    (26 ≤ x.toNat → refused (.setRule c x v) ∧ refused (.readRule c x)) ∧
    (x = 0#8 ∨ 16 < x.toNat → refused (.readLadder c x) ∧ refused (.readStandings c x 1#8)) ∧
    (x = 0#8 ∨ 7 < x.toNat → refused (.readStandings c 1#8 x)) ∧
    (x = 0#8 → refused (.postKey c x)) ∧ (6 < x.toNat → RoundBodyInRange s → refused (.postKey c x)) ∧
    (∀ choices key, s.kind = some (.poll choices key) → s.roundActive = true → choices < x.toNat →
      refused (.postKey c x))

/-- A request whose record, round or rule store is in another state is refused with the status its rule names, and the
owning block changes nothing. The second half: while a store is in progress SET RULE, STORE RULES and RECALL RULES are
refused with BUSY, and while a round is active the last two, and a write of the line rules, with ROUND_ACTIVE. -/
def Obligations.StateRefusals : Prop :=
  (∀ (c : Bool) (t : TeamNo) (i : SeatNo) (v : BitVec 24) (label : List Byte) (verdict choices key : Byte) (s : State),
      PortReady c s → label.length ≤ 8 → verdict.toNat ≤ 2 →
      let refused (status : Status) (i : Instr) : Prop := ∀ r, i.request? = some (c, r) →
        exec i s = .next (answered c status [] (received c r s))
      let tb := byte t.val
      ((s.team t).state ≠ .free → refused .state (.enrolTeam c tb v label)) ∧
      ((s.team t).state = .free → refused .state (.renameTeam c tb label) ∧ refused .state (.adjustScore c tb v) ∧
        refused .state (.setScore c tb v)) ∧
      ((s.team t).state ≠ .active → refused .state (.benchTeam c tb)) ∧
      ((s.team t).state ≠ .benched → refused .state (.recallTeam c tb)) ∧
      ((s.team t).state.listed = false → refused .state (.retireTeam c tb) ∧
        refused .state (.bindSeat c (byte i.val) tb)) ∧
      ((s.team t).state ≠ .retired → refused .state (.purgeTeam c tb)) ∧
      ((s.team t).state.listed = true → (s.seat i).team ≠ some t → 16 ≤ s.memberCount t →
        refused .full (.bindSeat c (byte i.val) tb)) ∧
      (s.round.state ≠ .opened → refused .state (.closeRound c)) ∧
      (s.roundActive = false → refused .state (.abandonRound c) ∧ refused .state (.postKey c 1#8)) ∧
      (s.roundActive = true → refused .roundActive (.openRound c 1#8 v choices key) ∧
        (key.toNat ≤ (if choices.toNat < 2 then 2 else if 6 < choices.toNat then 6 else choices.toNat) →
          refused .roundActive (.openRound c 2#8 v choices key))) ∧
      (s.kind = some .buzz → key ≠ 0#8 → key.toNat ≤ 6 → refused .state (.postKey c key)) ∧
      (∀ n k, s.kind = some (.poll n (some k)) → key ≠ 0#8 → key.toNat ≤ n → n ≤ 6 → refused .state (.postKey c key)) ∧
      ((∀ d, s.calledClaim = some d → d.seat ≠ i) → refused .stale (.judge c verdict (byte i.val)))) ∧
  (∀ (c : Bool) (r : RuleId) (v : BitVec 24) (s : State), PortReady c s →
      let refused (status : Status) (i : Instr) : Prop := ∀ q, i.request? = some (c, q) →
        exec i s = .next (answered c status [] (received c q s))
      (s.storing.isSome → refused .busy (.setRule c (byte r.val) v) ∧ refused .busy (.storeRules c) ∧
        refused .busy (.recallRules c)) ∧
      (s.storing = none → s.roundActive = true → refused .roundActive (.storeRules c) ∧
        refused .roundActive (.recallRules c) ∧
        (12 ≤ r.val → r.val ≤ 16 → refused .roundActive (.setRule c (byte r.val) v))))

/-! ## Teams and scores -/

/-- ENROL TEAM (R11): refused with STATE but for a FREE team; for one, the record's fields, the list with its ranks, one
standings change at the boards, and nothing else. -/
def Obligations.EnrolListsTheTeam : Prop :=
  ∀ (c : Bool) (t : TeamNo) (score : BitVec 24) (label : List Byte) (s : State),
    PortReady c s → label.length ≤ 8 →
    let u := received c (.enrolTeam (byte t.val) score label) s
    let start : Int := if score.toInt < -9999 then -9999 else if 99999 < score.toInt then 99999 else score.toInt
    ((s.team t).state ≠ .free → exec (.enrolTeam c (byte t.val) score label) s = .next (answered c .state [] u)) ∧
    ((s.team t).state = .free → ∃ w, exec (.enrolTeam c (byte t.val) score label) s = .next w ∧
      { w.team t with rank := none } =
        { state := .active, label := label.map printable, score := start, streak := 0, lastAward := none,
          locked := false, rank := none } ∧
      (∀ x, x ≠ t → { w.team x with rank := none } = { s.team x with rank := none }) ∧
      StandingsInOrder w ∧ (∀ b, BoardTookChange u w b) ∧
      w.answers = s.answers ++ [answerBytes s.targetAddress c
        { status := if start = score.toInt then .done else .clamped, data := [] }] ∧
      { w with teams := u.teams, standings := u.standings, boards := u.boards, answers := u.answers } = u)

/-- RENAME TEAM (R13): refused with STATE for a FREE team; otherwise the label alone, and for a listed team whose label
differs one standings change. -/
def Obligations.RenameWritesTheLabel : Prop :=
  ∀ (c : Bool) (t : TeamNo) (label : List Byte) (s : State),
    PortReady c s → label.length ≤ 8 →
    let u := received c (.renameTeam (byte t.val) label) s
    ((s.team t).state = .free → exec (.renameTeam c (byte t.val) label) s = .next (answered c .state [] u)) ∧
    ((s.team t).state ≠ .free → ∃ w, exec (.renameTeam c (byte t.val) label) s = .next w ∧
      { w.team t with rank := none } = { s.team t with label := label.map printable, rank := none } ∧
      (∀ x, x ≠ t → { w.team x with rank := none } = { s.team x with rank := none }) ∧
      (if (s.team t).state.listed ∧ (s.team t).label ≠ label.map printable then
          StandingsInOrder w ∧ ∀ b, BoardTookChange u w b
        else w.boards = u.boards ∧ w.standings = s.standings ∧ ∀ x, (w.team x).rank = (s.team x).rank) ∧
      { w with teams := u.teams, standings := u.standings, boards := u.boards } = answered c .done [] u)

/-- BENCH TEAM of a team with no claim, RECALL TEAM and PURGE TEAM write the team's record alone (R14, R16, R20), and the
last two are refused with STATE but for a BENCHED and a RETIRED team. -/
def Obligations.TeamStatesChange : Prop :=
  ∀ (c : Bool) (t : TeamNo) (s : State), PortReady c s →
    let tb := byte t.val
    let x := s.team t
    (x.state = .active → s.claimOf t = none → TransmittersBusy s →
      exec (.benchTeam c tb) s =
        .next (answered c .done [] ((received c (.benchTeam tb) s).setTeam t { x with state := .benched }))) ∧
    exec (.recallTeam c tb) s = .next (let u := received c (.recallTeam tb) s
      if x.state = .benched then answered c .done [] (u.setTeam t { x with state := .active })
      else answered c .state [] u) ∧
    exec (.purgeTeam c tb) s = .next (let u := received c (.purgeTeam tb) s
      if x.state = .retired then
        answered c .done [] (u.setTeam t { x with state := .free, label := [], score := 0, streak := 0, lastAward := none })
      else answered c .state [] u)

/-- BENCH TEAM of a team that holds a claim (R14, R118, R119): the claim is gone from the ladder and only a CALLED one
sets CLAIM_CANCELLED; no score, and no other team's state, changes; the claim's seat shows IDLE and the ladder goes on
with the other claims. -/
def Obligations.BenchDropsTheClaim : Prop :=
  ∀ (c : Bool) (t : TeamNo) (d : Claim) (s : State),
    PortReady c s → (s.team t).state = .active → s.claimOf t = some d →
    ∃ w, exec (.benchTeam c (byte t.val)) s = .next w ∧ (w.team t).state = .benched ∧
      (∀ e ∈ w.ladder, e.team ≠ t) ∧ (d.called = true → w.notice .claimCancelled = true) ∧
      (d.called = false → w.notice .claimCancelled = s.notice .claimCancelled) ∧
      (∀ x, (w.team x).score = (s.team x).score) ∧ (∀ x, x ≠ t → (w.team x).state = (s.team x).state) ∧
      w.standings = s.standings ∧ w.sheet = s.sheet ∧ (∀ i, (w.seat i).team = (s.seat i).team) ∧ ContestFrame s w ∧
      (LadderInOrder s → LadderWentOn s w d fun i => if i = d.seat then .idle else (s.seat i).lamp)

/-- RETIRE TEAM of a listed team (R17 to R19): RETIRED and unlocked, with its score, label, streak and last award; no
claim, no seat and no place in the list; its seats unbound, unlocked, without an answer and with lamp IDLE. A CALLED claim sets
CLAIM_CANCELLED, a WAITING one does not, and the ladder goes on with the other claims; with no claim of the team the round,
the ladder and the compares stay. What the boards show of a close in DRAINING is left out (log entry 24). -/
def Obligations.RetireClearsTheTeam : Prop :=
  ∀ (c : Bool) (t : TeamNo) (s : State), PortReady c s → (s.team t).state.listed = true →
    let idled (i : SeatNo) : Lamp := if (s.seat i).team = some t then .idle else (s.seat i).lamp
    ∃ w, exec (.retireTeam c (byte t.val)) s = .next w ∧
      w.team t = { s.team t with state := .retired, locked := false, rank := none } ∧ t ∉ w.standings ∧
      (∀ e ∈ w.ladder, e.team ≠ t) ∧ StandingsInOrder w ∧
      (∀ i, (s.seat i).team = some t → (w.seat i).team = none ∧ (w.seat i).locked = false ∧ w.entry i = none) ∧
      (∀ i, (s.seat i).team ≠ some t → (w.seat i).team = (s.seat i).team ∧ w.entry i = s.entry i ∧
        (w.seat i).presence = (s.seat i).presence) ∧
      (∀ x, x ≠ t → (w.team x).state = (s.team x).state ∧ (w.team x).score = (s.team x).score) ∧
      ContestFrame s w ∧ w.answers = (answered c .done [] s).answers ∧
      (LadderInOrder s →
        (∀ d, s.claimOf t = some d → LadderWentOn s w d idled ∧
          w.notice .claimCancelled = (d.called || s.notice .claimCancelled)) ∧
        (s.claimOf t = none → w.ladder = s.ladder ∧ w.round = s.round ∧ w.clock = s.clock ∧ w.notices = s.notices ∧
          ∀ i, (w.seat i).lamp = idled i))

/-- ADJUST SCORE and SET SCORE of a team that is not FREE (R151, R152): the clamped score, reported with the status, one
standings change when a listed team's score changed, and no other field of any record but the ranks. -/
def Obligations.ConsoleScoresAreClamped : Prop :=
  ∀ (c : Bool) (t : TeamNo) (v : BitVec 24) (s : State), PortReady c s → (s.team t).state ≠ .free →
    let clamp (x : Int) : Int := if x < -9999 then -9999 else if 99999 < x then 99999 else x
    let scored (i : Instr) (r : Request) (wanted : Int) : Prop :=
      let u := received c r s
      ∃ w, exec i s = .next w ∧
        { w.team t with rank := none } = { s.team t with score := clamp wanted, rank := none } ∧
        (∀ x, x ≠ t → { w.team x with rank := none } = { s.team x with rank := none }) ∧
        (if (s.team t).state.listed ∧ clamp wanted ≠ (s.team t).score then
            StandingsInOrder w ∧ ∀ b, BoardTookChange u w b
          else w.boards = u.boards ∧ w.standings = s.standings ∧ ∀ x, (w.team x).rank = (s.team x).rank) ∧
        { w with teams := u.teams, standings := u.standings, boards := u.boards } =
          answered c (if clamp wanted = wanted then .done else .clamped) (le24Int (clamp wanted)) u
    scored (.adjustScore c (byte t.val) v) (.adjustScore (byte t.val) v) ((s.team t).score + v.toInt) ∧
      scored (.setScore c (byte t.val) v) (.setScore (byte t.val) v) v.toInt

/-! ## Seats -/

/-- BIND SEAT, decided in the order of R35: a team not listed is refused with STATE; the seat's own team changes
nothing; a full team is refused with FULL; an unbound seat is bound; and a seat of another team is unbound, as by
UNBIND SEAT, and then bound. -/
def Obligations.BindSeatBinds : Prop :=
  ∀ (c : Bool) (i : SeatNo) (t : TeamNo) (s : State), PortReady c s →
    let bind := exec (.bindSeat c (byte i.val) (byte t.val)) s
    let u := received c (.bindSeat (byte i.val) (byte t.val)) s
    ((s.team t).state.listed = false → bind = .next (answered c .state [] u)) ∧
    ((s.team t).state.listed = true →
      ((s.seat i).team = some t → bind = .next (answered c .done [] u)) ∧
      ((s.seat i).team ≠ some t → 16 ≤ s.memberCount t → bind = .next (answered c .full [] u)) ∧
      ((s.seat i).team = none → s.memberCount t < 16 → TransmittersBusy s →
        bind = .next (answered c .done [] (u.setSeat i { s.seat i with team := some t }))) ∧
      (∀ old, (s.seat i).team = some old → old ≠ t → s.memberCount t < 16 →
        ∃ w, exec (.unbindSeat c (byte i.val)) s = .next w ∧
          bind = .next { w.setSeat i { w.seat i with team := some t } with bus := u.bus }))

/-- UNBIND SEAT (R37): a bound seat that holds no claim loses its team, answer and lock and its lamp is written IDLE; an
unbound seat is left as it is; and a bound seat that holds a claim loses that too, CLAIM_CANCELLED set for a CALLED claim
alone, and the ladder goes on with the other claims. -/
def Obligations.UnbindSeatUnbinds : Prop :=
  ∀ (c : Bool) (i : SeatNo) (s : State), PortReady c s →
    let u := received c (.unbindSeat (byte i.val)) s
    ((s.seat i).team.isSome → (∀ d ∈ s.ladder, d.seat ≠ i) →
      exec (.unbindSeat c (byte i.val)) s =
        .next (answered c .done [] (kickLines
          (((u.setSeat i { s.seat i with team := none, locked := false, lamp := .idle }).setEntry i none).queueOn
            (lineOf i) (·.queueLamp (localOf i) .idle))))) ∧
    ((s.seat i).team = none → exec (.unbindSeat c (byte i.val)) s = .next (answered c .done [] u)) ∧
    (∀ d, (s.seat i).team.isSome → s.ladder.find? (·.seat = i) = some d →
      ∃ w, exec (.unbindSeat c (byte i.val)) s = .next w ∧ (∀ e ∈ w.ladder, e.team ≠ d.team) ∧
        w.seat i = { s.seat i with team := none, locked := false, lamp := .idle } ∧ w.entry i = none ∧
        (∀ x, x ≠ i → (w.seat x).team = (s.seat x).team ∧ w.entry x = s.entry x) ∧
        (d.called = true → w.notice .claimCancelled = true) ∧
        (d.called = false → w.notice .claimCancelled = s.notice .claimCancelled) ∧
        (∀ x, { w.team x with locked := false } = { s.team x with locked := false }) ∧
        w.standings = s.standings ∧ ContestFrame s w ∧
        (LadderInOrder s → LadderWentOn s w d fun x => if x = i then .idle else (s.seat x).lamp))

/-- The Seat Table's take of a frame that is not handed on as a press (R26, R28, R29): the frame leaves the queue; a HELD line
at or below HOLD_LOWER queues GO, is NORMAL and has its re-hold counter cleared (R55); the seat's presence, countdown and
SEAT_CHANGE; and nothing else. -/
def Obligations.TakeUpdatesPresence : Prop :=
  ∀ (n : LineNo) (f : SeatFrame) (rest : List SeatFrame) (s : State),
    s.powered = true → TransmittersBusy s → (s.line n).queue = f :: rest →
    f.kind ≠ .press ∨ (s.round.state ≠ .opened ∧ s.round.state ≠ .settling) ∨ (s.seat f.seat).team = none ∨
      (∃ t, (s.seat f.seat).team = some t ∧ (s.team t).state ≠ .active) ∨ 6 < f.key ∨
      (s.kind = some .buzz ∧ f.key ≠ 0) ∨ (s.kind ≠ some .buzz ∧ f.key = 0) →
    exec (.seatTableTake n) s = .next (frameTaken n f rest s)

/-- A buzzer press that the ladder admits becomes a claim of its team in its place among the claims that stood, which keep
their order, with lamp WAIT; the call compare is re-armed for the head or withdrawn behind a CALLED one, and a head whose
target is past, the new claim or the old head, is called at once (R69, R72, R102, R104, R108). Where no call falls due at once
the claim is WAITING and no other seat changes. -/
def Obligations.BuzzPressIsInserted : Prop :=
  ∀ (n : LineNo) (f : SeatFrame) (rest : List SeatFrame) (t : TeamNo) (s : State),
    s.powered = true → (s.line n).queue = f :: rest → f.kind = .press → f.key = 0 →
    (s.round.state = .opened ∨ s.round.state = .settling) → s.kind = some .buzz →
    (s.seat f.seat).team = some t → (s.team t).state = .active → (s.team t).locked = false → s.claimOf t = none →
    f.stopped = false → f.age ≠ 127 → f.age ≤ f.capture → f.capture - f.age ≤ s.closeInstant →
    f.capture - f.age ≤ s.clock.count →
    let made : Claim :=
      { team := t, seat := f.seat, offset := f.capture - f.age, called := false,
        overtaken := (match s.calledClaim with | some k => f.capture - f.age < k.offset | none => false) }
    ∃ w, exec (.seatTableTake n) s = .next w ∧
      (LadderInOrder s → LadderJoined s w made (fun i => if i = f.seat then .wait else (s.seat i).lamp)) ∧
      (s.calledClaim.isSome ∨ (s.clock.count < f.capture - f.age + s.copy.callSettle ∧
          ∀ d ∈ s.ladder, s.clock.count < d.offset + s.copy.callSettle) →
        made ∈ w.ladder ∧ w.ladder.filter (·.team ≠ t) = s.ladder ∧ (w.seat f.seat).lamp = .wait ∧
          (∀ i, i ≠ f.seat → w.seat i = s.seat i)) ∧
      (∀ i, i ≠ f.seat → { w.seat i with lamp := .idle } = { s.seat i with lamp := .idle }) ∧
      (w.seat f.seat).presence = .present ∧ (w.line n).queue = rest ∧
      { w with lines := s.lines, seats := s.seats, ladder := s.ladder, clock := s.clock, notices := s.notices } = s

/-- A choice press that the sheet admits for a seat with no entry is stored with lamp ANSWERED (R125, R127). -/
def Obligations.PollPressIsStored : Prop :=
  ∀ (n : LineNo) (f : SeatFrame) (rest : List SeatFrame) (t : TeamNo) (choices : Nat) (key : Option Nat) (s : State),
    s.powered = true → (s.line n).queue = f :: rest → f.kind = .press → 1 ≤ f.key → f.key ≤ choices → f.key ≤ 6 →
    (s.round.state = .opened ∨ s.round.state = .settling) → s.kind = some (.poll choices key) →
    (s.seat f.seat).team = some t → (s.team t).state = .active → (s.seat f.seat).locked = false →
    s.entry f.seat = none → f.stopped = false → (f.age ≠ 127 → f.age ≤ f.capture) →
    let offset := if f.age = 127 then f.capture else f.capture - f.age
    offset ≤ s.closeInstant → offset ≤ s.clock.count →
    ∃ w, exec (.seatTableTake n) s = .next w ∧
      w.entry f.seat = some { choice := f.key, offset := offset, stale := f.age = 127 } ∧
      (w.seat f.seat).lamp = .answered ∧ (∀ i, i ≠ f.seat → w.entry i = s.entry i ∧ w.seat i = s.seat i) ∧
      (w.line n).queue = rest ∧
      { w with lines := s.lines, seats := s.seats, sheet := s.sheet, notices := s.notices } = s

/-- A press that is not admitted updates presence alone (R102, R125). At the ladder: a locked team, a CALLED claim, a stale or
stopped press, an early press under IGNORE (R103), a press after the close instant or past the count, a press no earlier than
its team's claim (R105). At the sheet: a locked seat, a choice above the round's, a stopped press, an early press under IGNORE
(R126), a press after the close instant or past the count, and a second answer under FIRST or of no greater offset (R128,
R129). -/
def Obligations.RefusedPressesUpdatePresence : Prop :=
  (∀ (n : LineNo) (f : SeatFrame) (rest : List SeatFrame) (t : TeamNo) (s : State),
    s.powered = true → TransmittersBusy s → (s.line n).queue = f :: rest → s.kind = some .buzz →
    (s.seat f.seat).team = some t →
    (s.team t).locked = true ∨ (∃ d, s.claimOf t = some d ∧ d.called = true) ∨ f.age = 127 ∨ f.stopped = true ∨
      (f.capture < f.age ∧ s.copy.earlyPolicy = 0) ∨
      (f.age ≤ f.capture ∧ (s.closeInstant < f.capture - f.age ∨ s.clock.count < f.capture - f.age)) ∨
      (∃ d, s.claimOf t = some d ∧ f.age ≤ f.capture ∧ d.offset ≤ f.capture - f.age) →
    exec (.seatTableTake n) s = .next (frameTaken n f rest s)) ∧
  (∀ (n : LineNo) (f : SeatFrame) (rest : List SeatFrame) (choices : Nat) (key : Option Nat) (s : State),
    s.powered = true → TransmittersBusy s → (s.line n).queue = f :: rest → s.kind = some (.poll choices key) →
    let early : Prop := f.age ≠ 127 ∧ f.capture < f.age
    let offset := if f.age = 127 then f.capture else f.capture - f.age
    (s.seat f.seat).locked = true ∨ choices < f.key ∨ f.stopped = true ∨ (early ∧ s.copy.earlyPolicy = 0) ∨
      (¬ early ∧ (s.closeInstant < offset ∨ s.clock.count < offset)) ∨
      (∃ old, s.entry f.seat = some old ∧ ¬ early ∧ (s.copy.answerLock = 0 ∨ offset ≤ old.offset)) →
    exec (.seatTableTake n) s = .next (frameTaken n f rest s))

/-- A teammate's press with a smaller offset replaces the WAITING claim, the call compare re-armed for the head or withdrawn,
and a head whose target is past called at once (R105, R108); an answer under
LAST replaces an entry of smaller offset and FIRST keeps it (R128, R129); an early press under LOCKOUT locks the team in a
BUZZ round, its members' lamps LOCKED and its WAITING claim removed with the ladder going on, and the seat in a POLL round,
its entry removed (R103, R126). -/
def Obligations.SecondAndEarlyPressesAct : Prop :=
  (∀ (n : LineNo) (f : SeatFrame) (rest : List SeatFrame) (t : TeamNo) (old : Claim) (s : State),
      s.powered = true → (s.line n).queue = f :: rest → f.kind = .press → f.key = 0 →
      (s.round.state = .opened ∨ s.round.state = .settling) → s.kind = some .buzz →
      (s.seat f.seat).team = some t → (s.team t).state = .active → (s.team t).locked = false →
      f.stopped = false → f.age ≠ 127 → LadderInOrder s →
      (s.claimOf t = some old → old.called = false → f.age ≤ f.capture → f.capture - f.age < old.offset →
        f.capture - f.age ≤ s.closeInstant → f.capture - f.age ≤ s.clock.count →
        let made : Claim :=
          { team := t, seat := f.seat, offset := f.capture - f.age, called := false,
            overtaken := (match s.calledClaim with | some k => f.capture - f.age < k.offset | none => false) }
        ∃ w, exec (.seatTableTake n) s = .next w ∧
          LadderJoined s w made (fun i =>
            if i = f.seat then .wait else if i = old.seat then .idle else (s.seat i).lamp) ∧
          (s.calledClaim.isSome ∨ (s.clock.count < f.capture - f.age + s.copy.callSettle ∧
              ∀ d ∈ s.ladder, s.clock.count < d.offset + s.copy.callSettle) →
            made ∈ w.ladder ∧ w.ladder.filter (·.team ≠ t) = s.ladder.filter (·.team ≠ t) ∧
              (w.seat f.seat).lamp = .wait ∧ (old.seat ≠ f.seat → (w.seat old.seat).lamp = .idle) ∧
              (∀ i, i ≠ f.seat → i ≠ old.seat → w.seat i = s.seat i)) ∧
          (∀ i, i ≠ f.seat → { w.seat i with lamp := .idle } = { s.seat i with lamp := .idle }) ∧
          { w with lines := s.lines, seats := s.seats, ladder := s.ladder, clock := s.clock, notices := s.notices } = s) ∧
      (s.claimOf t = none → f.capture < f.age → s.copy.earlyPolicy = 1 →
        ∃ w, exec (.seatTableTake n) s = .next w ∧ w.team t = { s.team t with locked := true } ∧
          (∀ i, if (s.seat i).team = some t then (w.seat i).lamp = .locked else w.seat i = s.seat i) ∧
          { w with lines := s.lines, seats := s.seats, notices := s.notices } =
            s.setTeam t { s.team t with locked := true }) ∧
      (s.claimOf t = some old → old.called = false → f.capture < f.age → s.copy.earlyPolicy = 1 →
        ∃ w, exec (.seatTableTake n) s = .next w ∧ w.team t = { s.team t with locked := true } ∧
          LadderWentOn s w old (fun i => if (s.seat i).team = some t then .locked else (s.seat i).lamp) ∧
          w.notice .claimCancelled = s.notice .claimCancelled ∧
          { w with lines := s.lines, seats := s.seats, ladder := s.ladder, clock := s.clock, notices := s.notices } =
            s.setTeam t { s.team t with locked := true })) ∧
  (∀ (n : LineNo) (f : SeatFrame) (rest : List SeatFrame) (t : TeamNo) (choices : Nat) (key : Option Nat) (old : SheetEntry)
      (s : State),
      s.powered = true → (s.line n).queue = f :: rest → f.kind = .press → 1 ≤ f.key → f.key ≤ choices → f.key ≤ 6 →
      (s.round.state = .opened ∨ s.round.state = .settling) → s.kind = some (.poll choices key) →
      (s.seat f.seat).team = some t → (s.team t).state = .active → (s.seat f.seat).locked = false → f.stopped = false →
      let offset := if f.age = 127 then f.capture else f.capture - f.age
      (s.entry f.seat = some old → (f.age ≠ 127 → f.age ≤ f.capture) → offset ≤ s.closeInstant →
        offset ≤ s.clock.count →
        ∃ w, exec (.seatTableTake n) s = .next w ∧
          w.entry f.seat = (if s.copy.answerLock = 1 ∧ old.offset < offset then
            some { choice := f.key, offset := offset, stale := f.age = 127 } else some old) ∧
          (∀ i, i ≠ f.seat → w.entry i = s.entry i ∧ w.seat i = s.seat i) ∧
          { w with lines := s.lines, seats := s.seats, sheet := s.sheet, notices := s.notices } = s) ∧
      (f.age ≠ 127 → f.capture < f.age → s.copy.earlyPolicy = 1 →
        ∃ w, exec (.seatTableTake n) s = .next w ∧ w.entry f.seat = none ∧ (w.seat f.seat).locked = true ∧
          (w.seat f.seat).lamp = .locked ∧ (∀ i, i ≠ f.seat → w.entry i = s.entry i ∧ w.seat i = s.seat i) ∧
          { w with lines := s.lines, seats := s.seats, sheet := s.sheet, notices := s.notices } = s))

/-- The housekeeping expiry (R27): every PRESENT seat's countdown falls by one, and a seat that reaches 0 is SILENT and
sets SEAT_CHANGE. -/
def Obligations.HousekeepingCountsDown : Prop :=
  ∀ s : State, s.powered = true →
    let silent (i : SeatNo) : Prop := (s.seat i).presence = .present ∧ (s.seat i).countdown ≤ 1
    ∃ w, exec .housekeepingExpiry s = .next w ∧
      (∀ i, w.seat i = if (s.seat i).presence = .present then
          { s.seat i with
            countdown := (s.seat i).countdown - 1
            presence := if (s.seat i).countdown ≤ 1 then .silent else .present }
        else s.seat i) ∧
      ((∃ i, silent i) → w.notices = s.notices ||| 0x20#24) ∧ ((∀ i, ¬ silent i) → w.notices = s.notices) ∧
      { w with seats := s.seats, notices := s.notices } = s

/-! ## Seat lines -/

/-- A start edge records the clock's value and whether it stands stopped; a false start leaves the receiver hunting; a
disabled line and a receiver within a character take no edge (R42, R48, R50). The gap limit discards a partial frame as
garble (R45, R47), and its row does nothing where there is none (log entry 4). -/
def Obligations.ReceiversHuntAndAssemblersTimeOut : Prop :=
  (∀ (n : LineNo) (s : State), s.powered = true →
      (s.lineEnabled n = true → (s.line n).receiver = .hunting →
        exec (.startEdge n false) s = .next (s.setLine n { s.line n with
          receiver := .receiving s.clock.count (!s.clock.running) }) ∧
        exec (.startEdge n true) s = .next s) ∧
      (s.lineEnabled n = false ∨ (s.line n).receiver ≠ .hunting → ∀ b, exec (.startEdge n b) s = .next s)) ∧
  (∀ (n : LineNo) (s : State), s.powered = true → s.lineEnabled n = true →
      ((s.line n).assembler.isSome → exec (.gapLimit n) s =
        .next ((s.setLine n { s.line n with assembler := none }).setNotice (.lineGarble n))) ∧
      ((s.line n).assembler = none → exec (.gapLimit n) s = .next s))

/-- The rows of R44 for a character that does not complete a frame: begun, discarded, added, or begun anew after
garble. -/
def Obligations.CharactersBuildFrames : Prop :=
  ∀ (n : LineNo) (char : Byte) (clock : Nat) (stopped : Bool) (s : State),
    s.powered = true → s.lineEnabled n = true → (s.line n).receiver = .receiving clock stopped →
    let become (assembler : Option PartialFrame) : State :=
      s.setLine n { s.line n with receiver := .hunting, assembler := assembler }
    let begun : Option PartialFrame := some { characters := [char], capture := clock, stopped := stopped }
    (char.msb = true → (s.line n).assembler = none →
      exec (.characterReceived n char) s = .next (kickLines (become begun))) ∧
    (char.msb = true → (s.line n).assembler.isSome →
      exec (.characterReceived n char) s = .next (kickLines ((become begun).setNotice (.lineGarble n)))) ∧
    (char.msb = false → (s.line n).assembler = none →
      exec (.characterReceived n char) s = .next (kickLines (become none))) ∧
    (∀ p, char.msb = false → (s.line n).assembler = some p → p.characters.length < 3 →
      exec (.characterReceived n char) s =
        .next (kickLines (become (some { p with characters := p.characters ++ [char] }))))

/-- The fourth character of a frame (R46, R47, R51, R52): a good frame joins the queue or, at a full one, is dropped with
LINE_OVERRUN; any other is garble; the assembler is empty afterwards. A NORMAL line that comes to HOLD_UPPER is HELD and
queues HOLD (R53); on a HELD line each good frame counts, and HOLD is queued again at the re-hold interval (R54). Nothing else
changes. That
CHARACTER_RECEIVED delivers the fourth character too is the model's reading (log entry 10); the table gives these rules to
SEAT_FRAME. -/
def Obligations.SeatFramesAreJudged : Prop :=
  ∀ (n : LineNo) (lead key age char : Byte) (capture clock : Nat) (mark stopped : Bool) (s : State),
    s.powered = true → TransmittersBusy s → s.lineEnabled n = true → (s.line n).receiver = .receiving clock stopped →
    (s.line n).assembler = some { characters := [lead, key, age], capture := capture, stopped := mark } →
    char.msb = false →
    let good : Prop := char = crc8 [lead, key, age] &&& 0x7F#8 ∧ lead.toNat / 32 % 4 ≠ 3 ∧
      lead.toNat % 32 < s.rule (Rule.lineSeats n)
    let frame : SeatFrame :=
      { seat := ⟨32 * n.val + lead.toNat % 32, by omega⟩
        kind := if lead.toNat / 32 % 4 = 0 then .checkIn else if lead.toNat / 32 % 4 = 1 then .press else .leave
        key := key.toNat % 16, age := age.toNat % 128, capture := capture, stopped := mark }
    let judged : Line := { s.line n with receiver := .hunting, assembler := none }
    let interval := match s.rule Rule.reholdEvery with | 0 => 1 | 1 => 4 | 2 => 8 | _ => 16
    let counted (l : Line) : Line :=
      if interval ≤ l.rehold + 1 then ({ l with rehold := 0 } : Line).flowQueued .hold
      else { l with rehold := l.rehold + 1 }
    let joined : Line := { judged with queue := (s.line n).queue ++ [frame] }
    let answer (i : Instr) : Prop :=
      (¬ good → exec i s = .next { s with
        lines := s.lines.set n judged, notices := s.notices ||| (1#24 <<< (10 + n.val)) }) ∧
      (good → (s.line n).queue.length < 16 → exec i s = .next { s with
        lines := s.lines.set n
          (if (s.line n).held then counted joined
          else if s.rule Rule.holdUpper ≤ (s.line n).queue.length + 1 then
            ({ joined with held := true, rehold := 0 } : Line).flowQueued .hold
          else joined) }) ∧
      (good → 16 ≤ (s.line n).queue.length → exec i s = .next { s with
        lines := s.lines.set n (if (s.line n).held then counted judged else judged)
        notices := s.notices ||| (1#24 <<< (6 + n.val)) })
    answer (.seatFrame n char) ∧ answer (.characterReceived n char)

/-- A downstream frame ends and the transmitter takes the flow entry, else the earliest entry, else rests (R60). -/
def Obligations.TransmitterTakesTheNextEntry : Prop :=
  ∀ (n : LineNo) (s : State), s.powered = true → (s.line n).sending.isSome →
    let l := s.line n
    (∀ f, l.flow = some f → exec (.downstreamFrameEnd n) s =
      .next (s.setLine n { l with sending := some (.flow f), flow := none })) ∧
    (∀ m rest, l.flow = none → l.entries = .mark m :: rest → exec (.downstreamFrameEnd n) s =
      .next (s.setLine n { l with sending := some (.mark m), entries := rest })) ∧
    (∀ a v rest, l.flow = none → l.entries = .lamp a v :: rest → exec (.downstreamFrameEnd n) s =
      .next (s.setLine n { l with sending := some (.lamp a v), entries := rest })) ∧
    (l.flow = none → l.entries = [] → exec (.downstreamFrameEnd n) s = .next (s.setLine n { l with sending := none }))

/-! ## The round clock and its compares -/

/-- The round clock rises by one, and the rise to 16,777,215 stops it with every compare as it was (R64, R67); a stopped clock
stands, its rows without effect (log entry 4). Where an event is due at the standing count, the step takes it before the rise
(R69, log entry 22): the one owner's event, or one of each owner, whichever first (log entry 8, the MODEL's free value). -/
def Obligations.ClockRisesAndSaturates : Prop :=
  (∀ s : State, s.powered = true → s.clock.count < 16777215 →
    (∀ x, (s.clock.windowEnd = some x ∨ s.clock.settlingEnd = some x ∨ s.clock.call = some x ∨
      s.clock.judgeDeadline = some x) → s.clock.count < x) →
    (s.clock.running = true → exec .roundClockStep s = .next { s with
      clock := { s.clock with count := s.clock.count + 1, running := s.clock.count + 1 ≠ 16777215 } }) ∧
    (s.clock.running = true → s.clock.count = 16777214 → exec .clockSaturation s = .next { s with
      clock := { s.clock with count := 16777215, running := false } }) ∧
    (s.clock.running = false → exec .roundClockStep s = .next s ∧ exec .clockSaturation s = .next s)) ∧
  (∀ s : State, s.powered = true → s.clock.running = true → s.clock.count < 16777215 →
    let due (target : Option Nat) : Bool := target.any (· ≤ s.clock.count)
    let controller : Bool := due s.clock.windowEnd || due s.clock.settlingEnd
    let ladder : Bool := due s.clock.call || due s.clock.judgeDeadline
    let controllerRow : Instr := if due s.clock.windowEnd then .windowEnd else .settlingEnd
    let ladderRow : Instr := if due s.clock.call then .call else .judgeDeadline
    let risen (t : State) : State :=
      if t.clock.running then
        { t with clock := { t.clock with count := t.clock.count + 1, running := t.clock.count + 1 ≠ 16777215 } }
      else t
    let takes (row : Instr) : Prop := ∃ t, exec row s = .next t ∧ exec .roundClockStep s = .next (risen t)
    let takesBoth (first second : Instr) : Prop := ∃ t, exec first { s with freeIndex := s.freeIndex + 1 } = .next t ∧
      ∃ u, exec second t = .next u ∧ exec .roundClockStep s = .next (risen u)
    (controller = true → ladder = false → takes controllerRow) ∧
    (controller = false → ladder = true → takes ladderRow) ∧
    (controller = true → ladder = true → takesBoth controllerRow ladderRow ∨ takesBoth ladderRow controllerRow))

/-- The window end takes an OPEN round to SETTLING with the window as its close instant and arms the settling end 128
counts later (R70, R71, R82). At the settling end (R85, R87) a BUZZ round drains while a claim stands and closes NO_WINNER
otherwise; a POLL round with no key waits for it; with a key every ACTIVE team is awarded and the round closes SCORED. -/
def Obligations.WindowAndSettlingEnd : Prop :=
  (∀ (w : Nat) (body : RoundBody) (s : State),
      s.powered = true → s.clock.running = true → s.round.state = .opened → s.round.body = some body →
      s.clock.windowEnd = some w → w ≤ s.clock.count →
      exec .windowEnd s = .next { s with
        round := { s.round with state := .settling, body := some { body with closeInstant := body.window } }
        clock := { s.clock with windowEnd := none, settlingEnd := some (body.window + 128) } }) ∧
  (∀ (target : Nat) (s : State),
      s.powered = true → s.clock.running = true → s.round.state = .settling → s.clock.settlingEnd = some target →
      target ≤ s.clock.count → TransmittersBusy s →
      let disarmed := { s.clock with settlingEnd := none }
      (s.kind = some .buzz → s.ladder ≠ [] → exec .settlingEnd s = .next { s with
        round := { s.round with state := .draining }, clock := disarmed }) ∧
      (s.kind = some .buzz → s.ladder = [] → ∃ w, exec .settlingEnd s = .next w ∧ RoundClosed s w .noWinner ∧
        (∀ x, { w.team x with locked := false } = { s.team x with locked := false }) ∧
        (∀ i, { w.seat i with locked := false } = { s.seat i with locked := false }) ∧ w.standings = s.standings ∧
        w.sheet = s.sheet ∧ ContestFrame s w) ∧
      (∀ choices, s.kind = some (.poll choices none) → exec .settlingEnd s = .next { s with
        round := { s.round with state := .keywait }, clock := disarmed, notices := s.notices ||| 2#24 }) ∧
      (∀ choices key, s.kind = some (.poll choices (some key)) →
        ∃ w, exec .settlingEnd s = .next w ∧ RoundClosed s w .scored ∧ w.sheet = s.sheet ∧
          (∀ i, { w.seat i with locked := false } = { s.seat i with locked := false }) ∧ ContestFrame s w ∧
          ∀ x, { w.team x with rank := none } = { polledRecord s key x with rank := none }))

/-- The call of the head (R107): CALLED, lamp CALLED and queued, the judge deadline armed JUDGE_WINDOW counts on,
CLAIM_CALLED, and nothing else. The judge deadline applies TIMEOUT_AS to the CALLED claim (R114, R116): JUDGE_TIMEOUT, the
claim off the ladder with its lamps, its team locked while the round goes on, BUZZ_WRONG taken from its score under WRONG
alone, and the ladder goes on with the other claims. -/
def Obligations.CallAndJudgeDeadline : Prop :=
  (∀ (target : Nat) (head : Claim) (rest : List Claim) (s : State),
      s.powered = true → s.clock.running = true → s.clock.call = some target → target ≤ s.clock.count →
      s.ladder = head :: rest →
      exec .call s = .next (kickLines
        ((({ s with
          ladder := { head with called := true } :: rest
          clock := { s.clock with call := none, judgeDeadline := some (s.clock.count + s.copy.judgeWindow) }
          notices := s.notices ||| 4#24 } : State).setSeat head.seat { s.seat head.seat with lamp := .called }).queueOn
            (lineOf head.seat) (·.queueLamp (localOf head.seat) .called)))) ∧
  (∀ (target : Nat) (d : Claim) (s : State),
      s.powered = true → s.clock.running = true → s.clock.judgeDeadline = some target → target ≤ s.clock.count →
      s.calledClaim = some d → LadderInOrder s →
      ∃ w, exec .judgeDeadline s = .next w ∧ w.notice .judgeTimeout = true ∧
        LadderWentOn s w d (fun i => if i = d.seat then (if s.copy.timeoutAs = 0 then .wrong else .locked)
          else if (s.seat i).team = some d.team then .locked else (s.seat i).lamp) ∧
        (w.round.state ≠ .closed → (w.team d.team).locked = true) ∧
        (w.team d.team).score =
          (if s.copy.timeoutAs = 0 then clampScore ((s.team d.team).score - s.copy.buzzWrong)
            else (s.team d.team).score) ∧
        (∀ x, x ≠ d.team → (w.team x).score = (s.team x).score) ∧ w.sheet = s.sheet ∧
        (∀ i, (w.seat i).team = (s.seat i).team) ∧ ContestFrame s w)

/-! ## Rounds -/

/-- OPEN ROUND with no round active (R65, R78 to R80): the record, the cleared clock and its window compare, no lock, no
lamp, no claim and no answer; the OPEN mark alone on every enabled line. -/
def Obligations.OpenRoundOpens : Prop :=
  ∀ (c : Bool) (window : BitVec 24) (choices key : Byte) (s : State), PortReady c s → s.roundActive = false →
    LinesBounded s →
    let width := if window.toNat < 100 then 100 else if 1000000 < window.toNat then 1000000 else window.toNat
    let count := if choices.toNat < 2 then 2 else if 6 < choices.toNat then 6 else choices.toNat
    let opened (i : Instr) (r : Request) (kind : RoundKind) (mark : Mark) (clamped : Prop) : Prop :=
      let u := received c r s
      ∃ w, exec i s = .next w ∧
        w.round = { state := .opened, outcome := none, tieStart := s.round.tieStart + 1,
                    body := some { kind := kind, window := width, closeInstant := width, copy := s.takeCopy } } ∧
        w.clock = { count := 0, running := true, windowEnd := some width, settlingEnd := none, call := none,
                    judgeDeadline := none } ∧
        (∀ t, w.team t = { s.team t with locked := false }) ∧
        (∀ x, w.seat x = { s.seat x with locked := false, lamp := .idle }) ∧ w.ladder = [] ∧
        (∀ x, w.entry x = none) ∧
        (∀ n, w.line n =
          if s.lineEnabled n then
            if (s.line n).sending.isSome then { s.line n with entries := [.mark mark] }
            else { s.line n with sending := some (.mark mark) }
          else s.line n) ∧
        (∀ b, BoardResolved u w b) ∧
        (clamped → w.answers = (answered c .clamped [] s).answers) ∧
        (¬ clamped → w.answers = (answered c .done [] s).answers) ∧ w.standings = s.standings ∧
        w.notices = s.notices ∧ ContestFrame s w
    opened (.openRound c 1#8 window choices key) (.openRound 1#8 window choices key) .buzz .openBuzz
        (width ≠ window.toNat) ∧
      (key.toNat ≤ count →
        opened (.openRound c 2#8 window choices key) (.openRound 2#8 window choices key)
          (.poll count (if key = 0#8 then none else some key.toNat)) (.openPoll count)
          (width ≠ window.toNat ∨ count ≠ choices.toNat))

/-- CLOSE ROUND (R83): in OPEN the round enters SETTLING at the standing count, which the answer carries; in any other
state it is refused with STATE. ABANDON ROUND (R91): an active round closes ABANDONED with no score, lamp, key, answer
or CLAIM_CANCELLED changed; in IDLE and CLOSED it is refused with STATE. -/
def Obligations.CloseAndAbandon : Prop :=
  ∀ (c : Bool) (s : State), PortReady c s →
    let u := received c .closeRound s
    (∀ body, s.round.body = some body → s.round.state = .opened →
      exec (.closeRound c) s = .next (answered c .done (le24Nat s.clock.count) { u with
        round := { s.round with state := .settling, body := some { body with closeInstant := s.clock.count } }
        clock := { s.clock with windowEnd := none, settlingEnd := some (s.clock.count + 128) } })) ∧
    (s.round.state ≠ .opened → exec (.closeRound c) s = .next (answered c .state [] u)) ∧
    (s.roundActive = true → ∃ w, exec (.abandonRound c) s = .next w ∧ RoundClosed s w .abandoned ∧
      (∀ x, { w.team x with locked := false } = { s.team x with locked := false }) ∧
      (∀ i, { w.seat i with locked := false } = { s.seat i with locked := false }) ∧
      w.notices = s.notices ||| 1#24 ∧ w.sheet = s.sheet ∧ w.standings = s.standings ∧ ContestFrame s w ∧
      (∀ b, BoardResolved (received c .abandonRound s) w b) ∧ w.answers = (answered c .done [] s).answers) ∧
    (s.roundActive = false →
      exec (.abandonRound c) s = .next (answered c .state [] (received c .abandonRound s)))

/-- POST KEY (R89): in OPEN and SETTLING the key is stored in a round that has none; in KEYWAIT the round is scored with
it and closes SCORED. -/
def Obligations.PostKeyStoresOrScores : Prop :=
  ∀ (c : Bool) (key : Nat) (choices : Nat) (body : RoundBody) (s : State),
    PortReady c s → 1 ≤ key → key ≤ choices → choices ≤ 6 → s.round.body = some body →
    body.kind = .poll choices none →
    ((s.round.state = .opened ∨ s.round.state = .settling) → exec (.postKey c (byte key)) s =
      .next (answered c .done [] { received c (.postKey (byte key)) s with
        round := { s.round with body := some { body with kind := .poll choices (some key) } } })) ∧
    (s.round.state = .keywait → ∃ w, exec (.postKey c (byte key)) s = .next w ∧
      RoundClosed { s with
        round := { s.round with body := some { body with kind := .poll choices (some key) } } } w .scored ∧
      (∀ x, { w.team x with rank := none } = { polledRecord s key x with rank := none }) ∧
      (∀ i, { w.seat i with locked := false } = { s.seat i with locked := false }) ∧
      w.sheet = s.sheet ∧ ContestFrame s w ∧ w.answers = (answered c .done [] s).answers)

/-- JUDGE RIGHT on the CALLED claim (R111, R141, R142): the award with its quarters, the streak, the lamp, and the round
closed WON. -/
def Obligations.JudgeRightWins : Prop :=
  ∀ (c : Bool) (d : Claim) (s : State), PortReady c s → s.calledClaim = some d →
    (∀ e ∈ s.ladder, e.called = false → e.seat ≠ d.seat) →
    let x := s.team d.team
    let award : Int := (s.copy.buzzRight * (4 + min x.streak s.copy.streakCap) / 4 : Nat)
    ∃ w, exec (.judge c 0#8 (byte d.seat.val)) s = .next w ∧ RoundClosed s w (.won d.team d.seat) ∧
      (w.team d.team).score = clampScore (x.score + award) ∧ (w.team d.team).lastAward = some award ∧
      (w.team d.team).streak = min 99 (x.streak + 1) ∧ (w.seat d.seat).lamp = .right ∧
      (∀ e ∈ s.ladder, e.called = false → (w.seat e.seat).lamp = .idle) ∧
      (∀ y, y ≠ d.team → (w.team y).score = (s.team y).score ∧ (w.team y).streak = (s.team y).streak) ∧
      (∀ i, (w.seat i).team = (s.seat i).team) ∧ w.sheet = s.sheet ∧ ContestFrame s w ∧
      w.answers = (answered c .done [] s).answers

/-- JUDGE WRONG and JUDGE PASS on the CALLED claim (R112 to R114): the claim goes, its seat WRONG or LOCKED and its
teammates' seats LOCKED; WRONG takes BUZZ_WRONG and ends the streak, PASS scores nothing; the team is locked while the round
goes on; and the ladder goes on with the other claims, the new head called at once when its target is past, and the round
closed NO_WINNER where none is left in DRAINING. -/
def Obligations.JudgeWrongAndPassGoOn : Prop :=
  ∀ (c : Bool) (d : Claim) (s : State), PortReady c s → s.calledClaim = some d → LadderInOrder s →
    let x := s.team d.team
    let judged (verdict : Byte) (lamp : Lamp) (w : State) : Prop :=
      exec (.judge c verdict (byte d.seat.val)) s = .next w ∧
        LadderWentOn s w d (fun i => if i = d.seat then lamp
          else if (s.seat i).team = some d.team then .locked else (s.seat i).lamp) ∧
        (w.round.state ≠ .closed → (w.team d.team).locked = true) ∧
        (∀ y, y ≠ d.team → (w.team y).score = (s.team y).score) ∧ (∀ i, (w.seat i).team = (s.seat i).team) ∧
        w.sheet = s.sheet ∧ ContestFrame s w ∧ w.answers = (answered c .done [] s).answers
    (∃ w, judged 1#8 .wrong w ∧ (w.team d.team).score = clampScore (x.score - s.copy.buzzWrong) ∧
      (w.team d.team).streak = 0 ∧ (w.team d.team).lastAward = some (-(s.copy.buzzWrong : Int))) ∧
    (∃ w, judged 2#8 .locked w ∧ (w.team d.team).score = x.score ∧ (w.team d.team).streak = x.streak ∧
      w.standings = s.standings)

/-! ## Boards -/

/-- A transfer ends at its latch (R166): the image is shown, a repaint's order is recorded unless void, and a pending
image starts, its content fixed now. The content (R168 to R170): a repaint shows the Standings line by line, each team's rank,
change marker, label and score in their columns; a message the text on its first two lines; a blank image spaces. -/
def Obligations.TransferEndLatches : Prop :=
  (∀ (b : BoardNo) (tr : Transfer) (s : State), s.powered = true → (s.board b).inFlight = some tr →
    let d := s.board b
    let latched : Board := { d with
      inFlight := none, pending := none, shown := some tr.image
      lastLive := if tr.kind = .repaint ∧ d.orderVoid = false then tr.order else d.lastLive }
    (d.pending = none → exec (.transferEnd b) s = .next (s.setBoard b latched)) ∧
    (∀ k, d.pending = some k → exec (.transferEnd b) s = .next (s.setBoard b { latched with
      inFlight := some ((s.setBoard b latched).newTransfer b k), orderVoid := false }))) ∧
  (∀ (b : BoardNo) (s : State),
    let started := s.newTransfer b
    (started .repaint).kind = .repaint ∧ (started .repaint).order = s.standings ∧
      (TeamsInRange s → StandingsInOrder s → ShowsStandings s (s.board b).lastLive (started .repaint).image) ∧
      ((s.board b).message.length = 32 → started .message =
        { kind := .message, image := (s.board b).message ++ List.replicate 224 0x20#8, order := [] }) ∧
      started .blank = { kind := .blank, image := List.replicate 256 0x20#8, order := [] })

/-- SET BOARD writes the packed configuration and the board resolves (R159, R160, R196); SET MESSAGE stores the text, and
a board in MESSAGE sends it (R161). -/
def Obligations.BoardRequestsAct : Prop :=
  ∀ (c : Bool) (b : BoardNo) (source : Nat) (select console hold blank : Bool) (text : List Byte) (s : State),
    PortReady c s → source < 4 → text.length ≤ 32 →
    let bit (x : Bool) : Byte := if x then 1#8 else 0#8
    let weight (x : Bool) (k : Nat) := if x then k else 0
    let r : Request := .setBoard (byte b.val) (byte source) (bit select) (bit console) (bit hold) (bit blank)
    let u := received c r s
    let v := received c (.setMessage (byte b.val) text) s
    let stored := text.map printable ++ List.replicate (32 - text.length) 0x20#8
    (∃ w, exec (.setBoard c (byte b.val) (byte source) (bit select) (bit console) (bit hold) (bit blank)) s = .next w ∧
      w.rules = s.rules.set (Rule.boardCfg b)
        (source + weight select 4 + weight console 8 + weight hold 16 + weight blank 32) ∧
      BoardResolved u w b ∧ (∀ x, x ≠ b → w.board x = u.board x) ∧
      { w with rules := u.rules, boards := u.boards } = answered c .done [] u) ∧
    exec (.setMessage c (byte b.val) text) s = .next (answered c .done [] (v.setBoard b
      (if (v.board b).mode = .message then
        if (v.board b).inFlight.isSome then { v.board b with message := stored, pending := some .message }
        else { v.board b with
          message := stored, orderVoid := false
          inFlight := some
            { kind := .message, image := stored ++ List.replicate 224 0x20#8, order := [] } }
      else { v.board b with message := stored })))

/-- REVEAL (R162): a change of the pin changes the level taken only when the level has held; both boards then resolve.
The row REVEAL_LEVEL_TAKEN stands for the 10 ms held, and does nothing where no new level stands (log entries 4 and
9). -/
def Obligations.RevealIsTakenWhenStable : Prop :=
  ∀ (level : Bool) (s : State),
    exec (.revealPinChange level) s = .next { s with reveal := { s.reveal with pin := level } } ∧
    (s.phase = .running → s.reveal.pin ≠ s.reveal.taken →
      ∃ w, exec .revealLevelTaken s = .next w ∧ w.reveal = { pin := s.reveal.pin, taken := s.reveal.pin } ∧
        (∀ b, BoardResolved s w b) ∧
        { w with boards := s.boards, reveal := s.reveal } = s) ∧
    (s.reveal.pin = s.reveal.taken → exec .revealLevelTaken s = .next s)

/-! ## Rules, the rule store and the watchdog -/

/-- SET RULE stores the clamped value and answers with it, and no other rule changes but HOLD_LOWER under a lowered
HOLD_UPPER (R197); ids 0 to 11, 24 and 25 change nothing else (R198). A write of HOLD_UPPER, HOLD_LOWER or REHOLD_EVERY applies
both thresholds to every enabled line at once, which may queue HOLD or GO (R56); a write of WATCH_MODE or WATCH_INTERVAL arms
or disarms the watchdog (R188); after a write of a board's configuration the board resolves (R159). A write of
LINEn_SEATS disables or enables its line (R49), and a write of SEAT_RATE makes every enabled receiver hunt anew (R43), also for
the value that stood by the model's reading (log entry 15).
-/
def Obligations.SetRuleWritesAndActs : Prop :=
  (∀ (c : Bool) (r : RuleId) (v : BitVec 24) (s : State), PortReady c s → s.storing = none →
      (12 ≤ r.val → r.val ≤ 16 → s.roundActive = false) →
      let stored := if r = 22 ∨ r = 23 then v.toNat % 64 else
        if v.toNat < ruleLow r then ruleLow r
        else if ruleHigh (s.rule Rule.holdUpper) r < v.toNat then ruleHigh (s.rule Rule.holdUpper) r else v.toNat
      ∃ w, exec (.setRule c (byte r.val) v) s = .next w ∧ w.rule r = stored ∧
        (∀ q, q ≠ r → w.rule q =
          if q = 18 ∧ r = 17 ∧ stored ≤ s.rule Rule.holdLower then stored - 1 else s.rule q) ∧
        w.answers = (answered c (if stored = v.toNat then .done else .clamped) (le24Nat stored) s).answers ∧
        { w with rules := s.rules, lines := s.lines, boards := s.boards, watchdog := s.watchdog,
                 consoleLost := s.consoleLost, answers := s.answers, bus := s.bus } = s) ∧
  (∀ (c : Bool) (r : RuleId) (v : BitVec 24) (s : State), PortReady c s → s.storing = none →
      (r.val ≤ 11 ∨ 24 ≤ r.val) → TransmittersBusy s →
      let stored :=
        if v.toNat < ruleLow r then ruleLow r
        else if ruleHigh (s.rule Rule.holdUpper) r < v.toNat then ruleHigh (s.rule Rule.holdUpper) r else v.toNat
      exec (.setRule c (byte r.val) v) s =
        .next (answered c (if stored = v.toNat then .done else .clamped) (le24Nat stored)
          ((received c (.setRule (byte r.val) v) s).setRuleValue r stored))) ∧
  (∀ (c : Bool) (value code : Nat) (s : State), PortReady c s → s.storing = none → 2 ≤ value → value ≤ 16 →
      code ≤ 2 →
      let lower := if value ≤ s.rule Rule.holdLower then value - 1 else s.rule Rule.holdLower
      (∃ w, exec (.setRule c 17#8 (BitVec.ofNat 24 value)) s = .next w ∧ w.rule Rule.holdUpper = value ∧
        w.rule Rule.holdLower = lower ∧
        (∀ n, s.lineEnabled n = true → ((w.line n).held = true ↔
          if (s.line n).held then lower < (s.line n).queue.length else value ≤ (s.line n).queue.length)) ∧
        w.answers = (answered c .done (le24Nat value) s).answers) ∧
      (∃ w, exec (.setRule c 20#8 (BitVec.ofNat 24 code)) s = .next w ∧ w.rule Rule.watchMode = code ∧
        w.watchdog = (if code = 0 then .unarmed else .running (watchMilliseconds (s.rule Rule.watchInterval))) ∧
        w.answers = (answered c .done (le24Nat code) s).answers)) ∧
  (∀ (c : Bool) (n : LineNo) (seats rate : Nat) (s : State), PortReady c s → s.storing = none → s.roundActive = false →
      TransmittersBusy s → seats ≤ 32 → 4 ≤ rate → rate ≤ 255 →
      (∃ w, exec (.setRule c (byte (12 + n.val)) (BitVec.ofNat 24 seats)) s = .next w ∧
        (∀ m, m ≠ n → w.line m = s.line m) ∧
        (s.lineEnabled n = true → seats ≠ 0 → w.line n = s.line n) ∧
        (s.lineEnabled n = true → seats = 0 → w.line n = { Line.initial with sending := (s.line n).sending }) ∧
        (s.lineEnabled n = false → seats = 0 → w.line n = s.line n) ∧
        (s.lineEnabled n = false → seats ≠ 0 → w.line n =
          if (s.line n).sending.isSome then
            { Line.initial with flow := some .go, entries := [.mark .closed], sending := (s.line n).sending }
          else { Line.initial with entries := [.mark .closed], sending := some (.flow .go) })) ∧
      (∃ w, exec (.setRule c 16#8 (BitVec.ofNat 24 rate)) s = .next w ∧
        ∀ m, w.line m =
          if s.lineEnabled m then { s.line m with receiver := .hunting, assembler := none } else s.line m)) ∧
  (∀ (c : Bool) (r : RuleId) (v : BitVec 24) (s : State), PortReady c s → s.storing = none → 17 ≤ r.val → r.val ≤ 23 →
      let u := received c (.setRule (byte r.val) v) s
      ∃ w, exec (.setRule c (byte r.val) v) s = .next w ∧
        (TransmittersBusy s → ∀ n, w.line n =
          if r.val ≤ 19 ∧ s.lineEnabled n = true then
            (s.line n).thresholdsMet (w.rule Rule.holdUpper) (w.rule Rule.holdLower)
          else s.line n) ∧
        w.watchdog =
          (if r = 20 ∨ r = 21 then
            if w.rule Rule.watchMode = 0 then .unarmed else .running (watchMilliseconds (w.rule Rule.watchInterval))
          else u.watchdog) ∧
        (∀ b, if r = Rule.boardCfg b then BoardResolved u w b else w.board b = u.board b) ∧
        { w with rules := u.rules, lines := u.lines, watchdog := u.watchdog, boards := u.boards } =
          answered c (if w.rule r = v.toNat then .done else .clamped) (le24Nat (w.rule r)) u)

/-- STORE RULES and RECALL RULES start (R201, R203): the snapshot and the flag with the answer DONE; the recall's flag
with no answer, the request staying in process. STORE_COMPLETE writes the snapshot with a good check and sets STORE_DONE
(R202). RECALL_COMPLETE loads a good store, clamped, and answers DONE, and leaves the rules with RULES_DEFAULTED and STATE
when its check is bad (R203); no request waits. That a stored board configuration above 63 is clamped by clearing bits 6 and
above is the model's choice (log entry 27). -/
def Obligations.StoreAndRecall : Prop :=
  (∀ (c : Bool) (s : State), PortReady c s → s.storing = none → s.roundActive = false →
      exec (.storeRules c) s = .next (answered c .done [] { received c .storeRules s with
        storing := some (s.rules.map fun v => BitVec.ofNat 24 v) }) ∧
      exec (.recallRules c) s = .next { received c .recallRules s with recalling := true, inProcess := some c }) ∧
  (∀ (c : Bool) (values : Vector (BitVec 24) 26) (s : State),
      (s.storing = some values → ∃ m : RuleStore, m.values = values ∧ m.good = true ∧
        exec .storeComplete s =
          .next { s with store := m, storing := none, notices := s.notices ||| 0x010000#24 }) ∧
      (s.recalling = true → s.inProcess = some c → s.requests = [] → s.store.good = false →
        exec .recallComplete s = .next { answered c .state [] s with
          recalling := false, inProcess := none, notices := s.notices ||| 0x008000#24 }) ∧
      (s.recalling = true → s.inProcess = some c → s.requests = [] → s.store.good = true →
        ∃ w, exec .recallComplete s = .next w ∧ w.recalling = false ∧ w.inProcess = none ∧
          (∀ r, w.rule r = clampRule (w.rule Rule.holdUpper) r s.store.values[r].toNat) ∧
          w.answers = (answered c .done [] s).answers ∧
          { w with rules := s.rules, lines := s.lines, boards := s.boards, watchdog := s.watchdog, answers := s.answers,
                   recalling := s.recalling, inProcess := s.inProcess } = s))

/-- RESET SESSION (R205): what it changes and what it keeps. Each board resets as R172 says, a transfer in flight kept, and
each enabled line as R57 and R61 say, a frame in flight kept. -/
def Obligations.ResetSessionClearsTheContest : Prop :=
  ∀ (c : Bool) (s : State), PortReady c s → LinesBounded s →
    ∃ w, exec (.resetSession c) s = .next w ∧ (∀ t, w.team t = Team.initial) ∧
      (∀ i, w.seat i = { s.seat i with team := none, locked := false, lamp := .idle }) ∧
      w.round = Round.initial ∧ w.clock = Clock.initial ∧ w.ladder = [] ∧ (∀ i, w.entry i = none) ∧
      w.standings = [] ∧ w.notices = 0#24 ∧ w.watchdog = .unarmed ∧ w.consoleLost = false ∧
      (∀ n, w.line n =
        let l := s.line n
        let flushed : Line := { l with queue := [], held := false, rehold := 0 }
        if s.lineEnabled n then
          if l.sending.isSome then
            { flushed with entries := [.mark .closed], flow := if l.held then some .go else l.flow }
          else if l.held then { flushed with entries := [.mark .closed], sending := some (.flow .go) }
          else { flushed with sending := some (.mark .closed) }
        else l) ∧
      (∀ b, BoardWasReset (received c .resetSession s) w b) ∧
      w.answers = (answered c .done [] s).answers ∧
      { w with
        teams := s.teams, seats := s.seats, lines := s.lines, clock := s.clock, round := s.round, ladder := s.ladder
        sheet := s.sheet, standings := s.standings, boards := s.boards, notices := s.notices, answers := s.answers
        bus := s.bus, watchdog := s.watchdog, consoleLost := s.consoleLost } = s

/-- The watchdog's expiry (R189, R92): EXPIRED with CONSOLE_LOST, and in SAFE the condition, which abandons an active
round. -/
def Obligations.WatchdogExpires : Prop :=
  ∀ (interval : Nat) (s : State), s.phase = .running → s.watchdog = .running interval →
    (s.rule Rule.watchMode ≠ 2 → exec .watchdogExpiry s =
      .next { s with watchdog := .expired, notices := s.notices ||| 0x004000#24 }) ∧
    (s.rule Rule.watchMode = 2 → ∃ w, exec .watchdogExpiry s = .next w ∧ w.watchdog = .expired ∧
      w.consoleLost = true ∧ w.notice .consoleLost = true ∧
      (s.roundActive = true → RoundClosed s w .abandoned) ∧ (s.roundActive = false → w.round = s.round) ∧
      (∀ b, (w.board b).mode = w.resolvedMode b) ∧
      (∀ x, { w.team x with locked := false } = { s.team x with locked := false }) ∧ w.standings = s.standings ∧
      (∀ i, { w.seat i with locked := false } = { s.seat i with locked := false }) ∧ w.sheet = s.sheet ∧
      ContestFrame s w ∧ w.answers = s.answers)

/-! ## Power, reset and start-up -/

/-- Power loss and RESET# (R174, R202 to R204): the slots are emptied, a recall and a store are abandoned, the store left
with a bad check, and the lines and board links rest. That nothing else changes before start-up is the model's choice (log
entry 17). -/
def Obligations.PowerLossAndResetAbandon : Prop :=
  ∀ s : State, s.phase ≠ .off →
    let rested (w : State) : Prop :=
      w.requests = [] ∧ w.answers = [] ∧ w.inProcess = none ∧ w.recalling = false ∧ w.storing = none ∧
        (s.storing.isSome → w.store.good = false) ∧ (s.storing = none → w.store = s.store) ∧
        (∀ n, (w.line n).receiver = .hunting ∧ (w.line n).sending = none) ∧
        (∀ b, (w.board b).inFlight = none ∧ (w.board b).shown = (s.board b).shown) ∧ w.alertLow = false ∧
        { w with
          phase := s.phase, freeIndex := s.freeIndex, lines := s.lines, boards := s.boards, store := s.store
          storing := s.storing, recalling := s.recalling, requests := s.requests, inProcess := s.inProcess
          answers := s.answers } = s
    (∃ w, exec .powerLoss s = .next w ∧ w.phase = .off ∧ rested w) ∧
      (∃ w, exec .resetPinLow s = .next w ∧ w.phase = .rest ∧ rested w)

/-- Power-on, and the steps of start-up taken at its beginning (R175, R204): the rules from a good store, clamped, or
the defaults with RULES_DEFAULTED; the power-on values; the target address and REVEAL from the pins. At its end (R172)
each enabled line sends its CLOSED mark, and each board enters the mode it resolves and sends that mode's image. A
board's mode between the two is the model's choice (log entry 2), and so is the clamping of a stored board configuration by
clearing bits 6 and above (log entry 27). -/
def Obligations.PowerOnAndStartUp : Prop :=
  (∀ (addr1 addr0 : Bool) (s : State),
      (s.phase = .off → exec .powerOn s = .next { s with phase := .rest }) ∧
      (s.phase = .rest → ∃ w, exec (.startUp addr1 addr0) s = .next w ∧ w.phase = .startUp ∧
        (s.store.good = true → w.notices = 0#24 ∧
          ∀ r, w.rule r = clampRule (w.rule Rule.holdUpper) r s.store.values[r].toNat) ∧
        (s.store.good = false → w.notices = 0x008000#24 ∧ w.rules = Rules.default) ∧ w.store = s.store ∧
        (∀ t, w.team t = Team.initial) ∧ (∀ i, w.seat i = Seat.initial) ∧ w.round = Round.initial ∧
        w.clock = Clock.initial ∧ w.ladder = [] ∧ (∀ i, w.entry i = none) ∧ w.standings = [] ∧
        (∀ n, w.line n = Line.initial) ∧ w.requests = [] ∧ w.answers = [] ∧ w.inProcess = none ∧
        w.watchdog = .unarmed ∧ w.consoleLost = false ∧
        w.targetAddress.toNat = 0x5C + (if addr1 then 2 else 0) + (if addr0 then 1 else 0) ∧
        w.reveal = { pin := s.reveal.pin, taken := s.reveal.pin } ∧ w.storing = none ∧ w.recalling = false ∧
        (∀ b, w.board b = { Board.initial with shown := (s.board b).shown }) ∧ w.pending = s.pending ∧
        w.freeIndex = s.freeIndex ∧ w.bus = s.bus)) ∧
  (∀ s : State, s.phase = .startUp → (∀ n, s.line n = Line.initial) →
      (∀ b, (s.board b).inFlight = none ∧ (s.board b).pending = none) →
      ∃ w, exec .startUpEnd s = .next w ∧ w.phase = .running ∧
        (∀ n, w.line n =
          if s.lineEnabled n then { Line.initial with sending := some (.mark .closed) } else Line.initial) ∧
        (∀ b, (w.board b).mode = s.resolvedMode b ∧ (w.board b).pending = none ∧
          (w.board b).inFlight.map (·.kind) = (s.resolvedMode b).image) ∧
        { w with phase := s.phase, lines := s.lines, boards := s.boards } = s)
end

