-- ==== Sys2Proof/Laws/State.lean ====
section
/-! SUPPORT. The small lemmas of the state's named updates: one per field per update, and what each record read gives after
each update. -/

namespace Sys2Proof.Machine

variable (s : State)

/-! ## setTeam -/

@[simp] theorem State.setTeam_pending (t : TeamNo) (x : Team) : (s.setTeam t x).pending = s.pending := rfl
@[simp] theorem State.setTeam_freeIndex (t : TeamNo) (x : Team) : (s.setTeam t x).freeIndex = s.freeIndex := rfl
@[simp] theorem State.setTeam_phase (t : TeamNo) (x : Team) : (s.setTeam t x).phase = s.phase := rfl
@[simp] theorem State.setTeam_teams (t : TeamNo) (x : Team) : (s.setTeam t x).teams = s.teams.set t x := rfl
@[simp] theorem State.setTeam_seats (t : TeamNo) (x : Team) : (s.setTeam t x).seats = s.seats := rfl
@[simp] theorem State.setTeam_lines (t : TeamNo) (x : Team) : (s.setTeam t x).lines = s.lines := rfl
@[simp] theorem State.setTeam_clock (t : TeamNo) (x : Team) : (s.setTeam t x).clock = s.clock := rfl
@[simp] theorem State.setTeam_round (t : TeamNo) (x : Team) : (s.setTeam t x).round = s.round := rfl
@[simp] theorem State.setTeam_ladder (t : TeamNo) (x : Team) : (s.setTeam t x).ladder = s.ladder := rfl
@[simp] theorem State.setTeam_sheet (t : TeamNo) (x : Team) : (s.setTeam t x).sheet = s.sheet := rfl
@[simp] theorem State.setTeam_standings (t : TeamNo) (x : Team) : (s.setTeam t x).standings = s.standings := rfl
@[simp] theorem State.setTeam_boards (t : TeamNo) (x : Team) : (s.setTeam t x).boards = s.boards := rfl
@[simp] theorem State.setTeam_rules (t : TeamNo) (x : Team) : (s.setTeam t x).rules = s.rules := rfl
@[simp] theorem State.setTeam_store (t : TeamNo) (x : Team) : (s.setTeam t x).store = s.store := rfl
@[simp] theorem State.setTeam_storing (t : TeamNo) (x : Team) : (s.setTeam t x).storing = s.storing := rfl
@[simp] theorem State.setTeam_recalling (t : TeamNo) (x : Team) : (s.setTeam t x).recalling = s.recalling := rfl
@[simp] theorem State.setTeam_requests (t : TeamNo) (x : Team) : (s.setTeam t x).requests = s.requests := rfl
@[simp] theorem State.setTeam_inProcess (t : TeamNo) (x : Team) : (s.setTeam t x).inProcess = s.inProcess := rfl
@[simp] theorem State.setTeam_answers (t : TeamNo) (x : Team) : (s.setTeam t x).answers = s.answers := rfl
@[simp] theorem State.setTeam_notices (t : TeamNo) (x : Team) : (s.setTeam t x).notices = s.notices := rfl
@[simp] theorem State.setTeam_watchdog (t : TeamNo) (x : Team) : (s.setTeam t x).watchdog = s.watchdog := rfl
@[simp] theorem State.setTeam_consoleLost (t : TeamNo) (x : Team) : (s.setTeam t x).consoleLost = s.consoleLost := rfl
@[simp] theorem State.setTeam_targetAddress (t : TeamNo) (x : Team) :
    (s.setTeam t x).targetAddress = s.targetAddress := rfl
@[simp] theorem State.setTeam_reveal (t : TeamNo) (x : Team) : (s.setTeam t x).reveal = s.reveal := rfl
@[simp] theorem State.setTeam_bus (t : TeamNo) (x : Team) : (s.setTeam t x).bus = s.bus := rfl

/-! ## setSeat -/

@[simp] theorem State.setSeat_pending (i : SeatNo) (x : Seat) : (s.setSeat i x).pending = s.pending := rfl
@[simp] theorem State.setSeat_freeIndex (i : SeatNo) (x : Seat) : (s.setSeat i x).freeIndex = s.freeIndex := rfl
@[simp] theorem State.setSeat_phase (i : SeatNo) (x : Seat) : (s.setSeat i x).phase = s.phase := rfl
@[simp] theorem State.setSeat_teams (i : SeatNo) (x : Seat) : (s.setSeat i x).teams = s.teams := rfl
@[simp] theorem State.setSeat_seats (i : SeatNo) (x : Seat) : (s.setSeat i x).seats = s.seats.set i x := rfl
@[simp] theorem State.setSeat_lines (i : SeatNo) (x : Seat) : (s.setSeat i x).lines = s.lines := rfl
@[simp] theorem State.setSeat_clock (i : SeatNo) (x : Seat) : (s.setSeat i x).clock = s.clock := rfl
@[simp] theorem State.setSeat_round (i : SeatNo) (x : Seat) : (s.setSeat i x).round = s.round := rfl
@[simp] theorem State.setSeat_ladder (i : SeatNo) (x : Seat) : (s.setSeat i x).ladder = s.ladder := rfl
@[simp] theorem State.setSeat_sheet (i : SeatNo) (x : Seat) : (s.setSeat i x).sheet = s.sheet := rfl
@[simp] theorem State.setSeat_standings (i : SeatNo) (x : Seat) : (s.setSeat i x).standings = s.standings := rfl
@[simp] theorem State.setSeat_boards (i : SeatNo) (x : Seat) : (s.setSeat i x).boards = s.boards := rfl
@[simp] theorem State.setSeat_rules (i : SeatNo) (x : Seat) : (s.setSeat i x).rules = s.rules := rfl
@[simp] theorem State.setSeat_store (i : SeatNo) (x : Seat) : (s.setSeat i x).store = s.store := rfl
@[simp] theorem State.setSeat_storing (i : SeatNo) (x : Seat) : (s.setSeat i x).storing = s.storing := rfl
@[simp] theorem State.setSeat_recalling (i : SeatNo) (x : Seat) : (s.setSeat i x).recalling = s.recalling := rfl
@[simp] theorem State.setSeat_requests (i : SeatNo) (x : Seat) : (s.setSeat i x).requests = s.requests := rfl
@[simp] theorem State.setSeat_inProcess (i : SeatNo) (x : Seat) : (s.setSeat i x).inProcess = s.inProcess := rfl
@[simp] theorem State.setSeat_answers (i : SeatNo) (x : Seat) : (s.setSeat i x).answers = s.answers := rfl
@[simp] theorem State.setSeat_notices (i : SeatNo) (x : Seat) : (s.setSeat i x).notices = s.notices := rfl
@[simp] theorem State.setSeat_watchdog (i : SeatNo) (x : Seat) : (s.setSeat i x).watchdog = s.watchdog := rfl
@[simp] theorem State.setSeat_consoleLost (i : SeatNo) (x : Seat) : (s.setSeat i x).consoleLost = s.consoleLost := rfl
@[simp] theorem State.setSeat_targetAddress (i : SeatNo) (x : Seat) :
    (s.setSeat i x).targetAddress = s.targetAddress := rfl
@[simp] theorem State.setSeat_reveal (i : SeatNo) (x : Seat) : (s.setSeat i x).reveal = s.reveal := rfl
@[simp] theorem State.setSeat_bus (i : SeatNo) (x : Seat) : (s.setSeat i x).bus = s.bus := rfl

/-! ## setLine -/

@[simp] theorem State.setLine_pending (n : LineNo) (x : Line) : (s.setLine n x).pending = s.pending := rfl
@[simp] theorem State.setLine_freeIndex (n : LineNo) (x : Line) : (s.setLine n x).freeIndex = s.freeIndex := rfl
@[simp] theorem State.setLine_phase (n : LineNo) (x : Line) : (s.setLine n x).phase = s.phase := rfl
@[simp] theorem State.setLine_teams (n : LineNo) (x : Line) : (s.setLine n x).teams = s.teams := rfl
@[simp] theorem State.setLine_seats (n : LineNo) (x : Line) : (s.setLine n x).seats = s.seats := rfl
@[simp] theorem State.setLine_lines (n : LineNo) (x : Line) : (s.setLine n x).lines = s.lines.set n x := rfl
@[simp] theorem State.setLine_clock (n : LineNo) (x : Line) : (s.setLine n x).clock = s.clock := rfl
@[simp] theorem State.setLine_round (n : LineNo) (x : Line) : (s.setLine n x).round = s.round := rfl
@[simp] theorem State.setLine_ladder (n : LineNo) (x : Line) : (s.setLine n x).ladder = s.ladder := rfl
@[simp] theorem State.setLine_sheet (n : LineNo) (x : Line) : (s.setLine n x).sheet = s.sheet := rfl
@[simp] theorem State.setLine_standings (n : LineNo) (x : Line) : (s.setLine n x).standings = s.standings := rfl
@[simp] theorem State.setLine_boards (n : LineNo) (x : Line) : (s.setLine n x).boards = s.boards := rfl
@[simp] theorem State.setLine_rules (n : LineNo) (x : Line) : (s.setLine n x).rules = s.rules := rfl
@[simp] theorem State.setLine_store (n : LineNo) (x : Line) : (s.setLine n x).store = s.store := rfl
@[simp] theorem State.setLine_storing (n : LineNo) (x : Line) : (s.setLine n x).storing = s.storing := rfl
@[simp] theorem State.setLine_recalling (n : LineNo) (x : Line) : (s.setLine n x).recalling = s.recalling := rfl
@[simp] theorem State.setLine_requests (n : LineNo) (x : Line) : (s.setLine n x).requests = s.requests := rfl
@[simp] theorem State.setLine_inProcess (n : LineNo) (x : Line) : (s.setLine n x).inProcess = s.inProcess := rfl
@[simp] theorem State.setLine_answers (n : LineNo) (x : Line) : (s.setLine n x).answers = s.answers := rfl
@[simp] theorem State.setLine_notices (n : LineNo) (x : Line) : (s.setLine n x).notices = s.notices := rfl
@[simp] theorem State.setLine_watchdog (n : LineNo) (x : Line) : (s.setLine n x).watchdog = s.watchdog := rfl
@[simp] theorem State.setLine_consoleLost (n : LineNo) (x : Line) : (s.setLine n x).consoleLost = s.consoleLost := rfl
@[simp] theorem State.setLine_targetAddress (n : LineNo) (x : Line) :
    (s.setLine n x).targetAddress = s.targetAddress := rfl
@[simp] theorem State.setLine_reveal (n : LineNo) (x : Line) : (s.setLine n x).reveal = s.reveal := rfl
@[simp] theorem State.setLine_bus (n : LineNo) (x : Line) : (s.setLine n x).bus = s.bus := rfl

/-! ## setBoard -/

@[simp] theorem State.setBoard_pending (b : BoardNo) (x : Board) : (s.setBoard b x).pending = s.pending := rfl
@[simp] theorem State.setBoard_freeIndex (b : BoardNo) (x : Board) : (s.setBoard b x).freeIndex = s.freeIndex := rfl
@[simp] theorem State.setBoard_phase (b : BoardNo) (x : Board) : (s.setBoard b x).phase = s.phase := rfl
@[simp] theorem State.setBoard_teams (b : BoardNo) (x : Board) : (s.setBoard b x).teams = s.teams := rfl
@[simp] theorem State.setBoard_seats (b : BoardNo) (x : Board) : (s.setBoard b x).seats = s.seats := rfl
@[simp] theorem State.setBoard_lines (b : BoardNo) (x : Board) : (s.setBoard b x).lines = s.lines := rfl
@[simp] theorem State.setBoard_clock (b : BoardNo) (x : Board) : (s.setBoard b x).clock = s.clock := rfl
@[simp] theorem State.setBoard_round (b : BoardNo) (x : Board) : (s.setBoard b x).round = s.round := rfl
@[simp] theorem State.setBoard_ladder (b : BoardNo) (x : Board) : (s.setBoard b x).ladder = s.ladder := rfl
@[simp] theorem State.setBoard_sheet (b : BoardNo) (x : Board) : (s.setBoard b x).sheet = s.sheet := rfl
@[simp] theorem State.setBoard_standings (b : BoardNo) (x : Board) : (s.setBoard b x).standings = s.standings := rfl
@[simp] theorem State.setBoard_boards (b : BoardNo) (x : Board) : (s.setBoard b x).boards = s.boards.set b x := rfl
@[simp] theorem State.setBoard_rules (b : BoardNo) (x : Board) : (s.setBoard b x).rules = s.rules := rfl
@[simp] theorem State.setBoard_store (b : BoardNo) (x : Board) : (s.setBoard b x).store = s.store := rfl
@[simp] theorem State.setBoard_storing (b : BoardNo) (x : Board) : (s.setBoard b x).storing = s.storing := rfl
@[simp] theorem State.setBoard_recalling (b : BoardNo) (x : Board) : (s.setBoard b x).recalling = s.recalling := rfl
@[simp] theorem State.setBoard_requests (b : BoardNo) (x : Board) : (s.setBoard b x).requests = s.requests := rfl
@[simp] theorem State.setBoard_inProcess (b : BoardNo) (x : Board) : (s.setBoard b x).inProcess = s.inProcess := rfl
@[simp] theorem State.setBoard_answers (b : BoardNo) (x : Board) : (s.setBoard b x).answers = s.answers := rfl
@[simp] theorem State.setBoard_notices (b : BoardNo) (x : Board) : (s.setBoard b x).notices = s.notices := rfl
@[simp] theorem State.setBoard_watchdog (b : BoardNo) (x : Board) : (s.setBoard b x).watchdog = s.watchdog := rfl
@[simp] theorem State.setBoard_consoleLost (b : BoardNo) (x : Board) :
    (s.setBoard b x).consoleLost = s.consoleLost := rfl
@[simp] theorem State.setBoard_targetAddress (b : BoardNo) (x : Board) :
    (s.setBoard b x).targetAddress = s.targetAddress := rfl
@[simp] theorem State.setBoard_reveal (b : BoardNo) (x : Board) : (s.setBoard b x).reveal = s.reveal := rfl
@[simp] theorem State.setBoard_bus (b : BoardNo) (x : Board) : (s.setBoard b x).bus = s.bus := rfl

/-! ## setEntry -/

@[simp] theorem State.setEntry_pending (i : SeatNo) (x : Option SheetEntry) :
    (s.setEntry i x).pending = s.pending := rfl
@[simp] theorem State.setEntry_freeIndex (i : SeatNo) (x : Option SheetEntry) :
    (s.setEntry i x).freeIndex = s.freeIndex := rfl
@[simp] theorem State.setEntry_phase (i : SeatNo) (x : Option SheetEntry) : (s.setEntry i x).phase = s.phase := rfl
@[simp] theorem State.setEntry_teams (i : SeatNo) (x : Option SheetEntry) : (s.setEntry i x).teams = s.teams := rfl
@[simp] theorem State.setEntry_seats (i : SeatNo) (x : Option SheetEntry) : (s.setEntry i x).seats = s.seats := rfl
@[simp] theorem State.setEntry_lines (i : SeatNo) (x : Option SheetEntry) : (s.setEntry i x).lines = s.lines := rfl
@[simp] theorem State.setEntry_clock (i : SeatNo) (x : Option SheetEntry) : (s.setEntry i x).clock = s.clock := rfl
@[simp] theorem State.setEntry_round (i : SeatNo) (x : Option SheetEntry) : (s.setEntry i x).round = s.round := rfl
@[simp] theorem State.setEntry_ladder (i : SeatNo) (x : Option SheetEntry) : (s.setEntry i x).ladder = s.ladder := rfl
@[simp] theorem State.setEntry_sheet (i : SeatNo) (x : Option SheetEntry) :
    (s.setEntry i x).sheet = s.sheet.set i x := rfl
@[simp] theorem State.setEntry_standings (i : SeatNo) (x : Option SheetEntry) :
    (s.setEntry i x).standings = s.standings := rfl
@[simp] theorem State.setEntry_boards (i : SeatNo) (x : Option SheetEntry) : (s.setEntry i x).boards = s.boards := rfl
@[simp] theorem State.setEntry_rules (i : SeatNo) (x : Option SheetEntry) : (s.setEntry i x).rules = s.rules := rfl
@[simp] theorem State.setEntry_store (i : SeatNo) (x : Option SheetEntry) : (s.setEntry i x).store = s.store := rfl
@[simp] theorem State.setEntry_storing (i : SeatNo) (x : Option SheetEntry) :
    (s.setEntry i x).storing = s.storing := rfl
@[simp] theorem State.setEntry_recalling (i : SeatNo) (x : Option SheetEntry) :
    (s.setEntry i x).recalling = s.recalling := rfl
@[simp] theorem State.setEntry_requests (i : SeatNo) (x : Option SheetEntry) :
    (s.setEntry i x).requests = s.requests := rfl
@[simp] theorem State.setEntry_inProcess (i : SeatNo) (x : Option SheetEntry) :
    (s.setEntry i x).inProcess = s.inProcess := rfl
@[simp] theorem State.setEntry_answers (i : SeatNo) (x : Option SheetEntry) :
    (s.setEntry i x).answers = s.answers := rfl
@[simp] theorem State.setEntry_notices (i : SeatNo) (x : Option SheetEntry) :
    (s.setEntry i x).notices = s.notices := rfl
@[simp] theorem State.setEntry_watchdog (i : SeatNo) (x : Option SheetEntry) :
    (s.setEntry i x).watchdog = s.watchdog := rfl
@[simp] theorem State.setEntry_consoleLost (i : SeatNo) (x : Option SheetEntry) :
    (s.setEntry i x).consoleLost = s.consoleLost := rfl
@[simp] theorem State.setEntry_targetAddress (i : SeatNo) (x : Option SheetEntry) :
    (s.setEntry i x).targetAddress = s.targetAddress := rfl
@[simp] theorem State.setEntry_reveal (i : SeatNo) (x : Option SheetEntry) : (s.setEntry i x).reveal = s.reveal := rfl
@[simp] theorem State.setEntry_bus (i : SeatNo) (x : Option SheetEntry) : (s.setEntry i x).bus = s.bus := rfl

/-! ## setRuleValue -/

@[simp] theorem State.setRuleValue_pending (r : RuleId) (v : Nat) : (s.setRuleValue r v).pending = s.pending := rfl
@[simp] theorem State.setRuleValue_freeIndex (r : RuleId) (v : Nat) :
    (s.setRuleValue r v).freeIndex = s.freeIndex := rfl
@[simp] theorem State.setRuleValue_phase (r : RuleId) (v : Nat) : (s.setRuleValue r v).phase = s.phase := rfl
@[simp] theorem State.setRuleValue_teams (r : RuleId) (v : Nat) : (s.setRuleValue r v).teams = s.teams := rfl
@[simp] theorem State.setRuleValue_seats (r : RuleId) (v : Nat) : (s.setRuleValue r v).seats = s.seats := rfl
@[simp] theorem State.setRuleValue_lines (r : RuleId) (v : Nat) : (s.setRuleValue r v).lines = s.lines := rfl
@[simp] theorem State.setRuleValue_clock (r : RuleId) (v : Nat) : (s.setRuleValue r v).clock = s.clock := rfl
@[simp] theorem State.setRuleValue_round (r : RuleId) (v : Nat) : (s.setRuleValue r v).round = s.round := rfl
@[simp] theorem State.setRuleValue_ladder (r : RuleId) (v : Nat) : (s.setRuleValue r v).ladder = s.ladder := rfl
@[simp] theorem State.setRuleValue_sheet (r : RuleId) (v : Nat) : (s.setRuleValue r v).sheet = s.sheet := rfl
@[simp] theorem State.setRuleValue_standings (r : RuleId) (v : Nat) :
    (s.setRuleValue r v).standings = s.standings := rfl
@[simp] theorem State.setRuleValue_boards (r : RuleId) (v : Nat) : (s.setRuleValue r v).boards = s.boards := rfl
@[simp] theorem State.setRuleValue_rules (r : RuleId) (v : Nat) : (s.setRuleValue r v).rules = s.rules.set r v := rfl
@[simp] theorem State.setRuleValue_store (r : RuleId) (v : Nat) : (s.setRuleValue r v).store = s.store := rfl
@[simp] theorem State.setRuleValue_storing (r : RuleId) (v : Nat) : (s.setRuleValue r v).storing = s.storing := rfl
@[simp] theorem State.setRuleValue_recalling (r : RuleId) (v : Nat) :
    (s.setRuleValue r v).recalling = s.recalling := rfl
@[simp] theorem State.setRuleValue_requests (r : RuleId) (v : Nat) : (s.setRuleValue r v).requests = s.requests := rfl
@[simp] theorem State.setRuleValue_inProcess (r : RuleId) (v : Nat) :
    (s.setRuleValue r v).inProcess = s.inProcess := rfl
@[simp] theorem State.setRuleValue_answers (r : RuleId) (v : Nat) : (s.setRuleValue r v).answers = s.answers := rfl
@[simp] theorem State.setRuleValue_notices (r : RuleId) (v : Nat) : (s.setRuleValue r v).notices = s.notices := rfl
@[simp] theorem State.setRuleValue_watchdog (r : RuleId) (v : Nat) : (s.setRuleValue r v).watchdog = s.watchdog := rfl
@[simp] theorem State.setRuleValue_consoleLost (r : RuleId) (v : Nat) :
    (s.setRuleValue r v).consoleLost = s.consoleLost := rfl
@[simp] theorem State.setRuleValue_targetAddress (r : RuleId) (v : Nat) :
    (s.setRuleValue r v).targetAddress = s.targetAddress := rfl
@[simp] theorem State.setRuleValue_reveal (r : RuleId) (v : Nat) : (s.setRuleValue r v).reveal = s.reveal := rfl
@[simp] theorem State.setRuleValue_bus (r : RuleId) (v : Nat) : (s.setRuleValue r v).bus = s.bus := rfl

/-! ## mapTeams -/

@[simp] theorem State.mapTeams_pending (f : Team → Team) : (s.mapTeams f).pending = s.pending := rfl
@[simp] theorem State.mapTeams_freeIndex (f : Team → Team) : (s.mapTeams f).freeIndex = s.freeIndex := rfl
@[simp] theorem State.mapTeams_phase (f : Team → Team) : (s.mapTeams f).phase = s.phase := rfl
@[simp] theorem State.mapTeams_teams (f : Team → Team) : (s.mapTeams f).teams = s.teams.map f := rfl
@[simp] theorem State.mapTeams_seats (f : Team → Team) : (s.mapTeams f).seats = s.seats := rfl
@[simp] theorem State.mapTeams_lines (f : Team → Team) : (s.mapTeams f).lines = s.lines := rfl
@[simp] theorem State.mapTeams_clock (f : Team → Team) : (s.mapTeams f).clock = s.clock := rfl
@[simp] theorem State.mapTeams_round (f : Team → Team) : (s.mapTeams f).round = s.round := rfl
@[simp] theorem State.mapTeams_ladder (f : Team → Team) : (s.mapTeams f).ladder = s.ladder := rfl
@[simp] theorem State.mapTeams_sheet (f : Team → Team) : (s.mapTeams f).sheet = s.sheet := rfl
@[simp] theorem State.mapTeams_standings (f : Team → Team) : (s.mapTeams f).standings = s.standings := rfl
@[simp] theorem State.mapTeams_boards (f : Team → Team) : (s.mapTeams f).boards = s.boards := rfl
@[simp] theorem State.mapTeams_rules (f : Team → Team) : (s.mapTeams f).rules = s.rules := rfl
@[simp] theorem State.mapTeams_store (f : Team → Team) : (s.mapTeams f).store = s.store := rfl
@[simp] theorem State.mapTeams_storing (f : Team → Team) : (s.mapTeams f).storing = s.storing := rfl
@[simp] theorem State.mapTeams_recalling (f : Team → Team) : (s.mapTeams f).recalling = s.recalling := rfl
@[simp] theorem State.mapTeams_requests (f : Team → Team) : (s.mapTeams f).requests = s.requests := rfl
@[simp] theorem State.mapTeams_inProcess (f : Team → Team) : (s.mapTeams f).inProcess = s.inProcess := rfl
@[simp] theorem State.mapTeams_answers (f : Team → Team) : (s.mapTeams f).answers = s.answers := rfl
@[simp] theorem State.mapTeams_notices (f : Team → Team) : (s.mapTeams f).notices = s.notices := rfl
@[simp] theorem State.mapTeams_watchdog (f : Team → Team) : (s.mapTeams f).watchdog = s.watchdog := rfl
@[simp] theorem State.mapTeams_consoleLost (f : Team → Team) : (s.mapTeams f).consoleLost = s.consoleLost := rfl
@[simp] theorem State.mapTeams_targetAddress (f : Team → Team) : (s.mapTeams f).targetAddress = s.targetAddress := rfl
@[simp] theorem State.mapTeams_reveal (f : Team → Team) : (s.mapTeams f).reveal = s.reveal := rfl
@[simp] theorem State.mapTeams_bus (f : Team → Team) : (s.mapTeams f).bus = s.bus := rfl

/-! ## mapSeats -/

@[simp] theorem State.mapSeats_pending (f : Seat → Seat) : (s.mapSeats f).pending = s.pending := rfl
@[simp] theorem State.mapSeats_freeIndex (f : Seat → Seat) : (s.mapSeats f).freeIndex = s.freeIndex := rfl
@[simp] theorem State.mapSeats_phase (f : Seat → Seat) : (s.mapSeats f).phase = s.phase := rfl
@[simp] theorem State.mapSeats_teams (f : Seat → Seat) : (s.mapSeats f).teams = s.teams := rfl
@[simp] theorem State.mapSeats_seats (f : Seat → Seat) : (s.mapSeats f).seats = s.seats.map f := rfl
@[simp] theorem State.mapSeats_lines (f : Seat → Seat) : (s.mapSeats f).lines = s.lines := rfl
@[simp] theorem State.mapSeats_clock (f : Seat → Seat) : (s.mapSeats f).clock = s.clock := rfl
@[simp] theorem State.mapSeats_round (f : Seat → Seat) : (s.mapSeats f).round = s.round := rfl
@[simp] theorem State.mapSeats_ladder (f : Seat → Seat) : (s.mapSeats f).ladder = s.ladder := rfl
@[simp] theorem State.mapSeats_sheet (f : Seat → Seat) : (s.mapSeats f).sheet = s.sheet := rfl
@[simp] theorem State.mapSeats_standings (f : Seat → Seat) : (s.mapSeats f).standings = s.standings := rfl
@[simp] theorem State.mapSeats_boards (f : Seat → Seat) : (s.mapSeats f).boards = s.boards := rfl
@[simp] theorem State.mapSeats_rules (f : Seat → Seat) : (s.mapSeats f).rules = s.rules := rfl
@[simp] theorem State.mapSeats_store (f : Seat → Seat) : (s.mapSeats f).store = s.store := rfl
@[simp] theorem State.mapSeats_storing (f : Seat → Seat) : (s.mapSeats f).storing = s.storing := rfl
@[simp] theorem State.mapSeats_recalling (f : Seat → Seat) : (s.mapSeats f).recalling = s.recalling := rfl
@[simp] theorem State.mapSeats_requests (f : Seat → Seat) : (s.mapSeats f).requests = s.requests := rfl
@[simp] theorem State.mapSeats_inProcess (f : Seat → Seat) : (s.mapSeats f).inProcess = s.inProcess := rfl
@[simp] theorem State.mapSeats_answers (f : Seat → Seat) : (s.mapSeats f).answers = s.answers := rfl
@[simp] theorem State.mapSeats_notices (f : Seat → Seat) : (s.mapSeats f).notices = s.notices := rfl
@[simp] theorem State.mapSeats_watchdog (f : Seat → Seat) : (s.mapSeats f).watchdog = s.watchdog := rfl
@[simp] theorem State.mapSeats_consoleLost (f : Seat → Seat) : (s.mapSeats f).consoleLost = s.consoleLost := rfl
@[simp] theorem State.mapSeats_targetAddress (f : Seat → Seat) : (s.mapSeats f).targetAddress = s.targetAddress := rfl
@[simp] theorem State.mapSeats_reveal (f : Seat → Seat) : (s.mapSeats f).reveal = s.reveal := rfl
@[simp] theorem State.mapSeats_bus (f : Seat → Seat) : (s.mapSeats f).bus = s.bus := rfl

/-! ## mapLines -/

@[simp] theorem State.mapLines_pending (f : LineNo → Line → Line) : (s.mapLines f).pending = s.pending := rfl
@[simp] theorem State.mapLines_freeIndex (f : LineNo → Line → Line) : (s.mapLines f).freeIndex = s.freeIndex := rfl
@[simp] theorem State.mapLines_phase (f : LineNo → Line → Line) : (s.mapLines f).phase = s.phase := rfl
@[simp] theorem State.mapLines_teams (f : LineNo → Line → Line) : (s.mapLines f).teams = s.teams := rfl
@[simp] theorem State.mapLines_seats (f : LineNo → Line → Line) : (s.mapLines f).seats = s.seats := rfl
@[simp] theorem State.mapLines_lines (f : LineNo → Line → Line) :
    (s.mapLines f).lines = Vector.ofFn fun n => f n s.lines[n] := rfl
@[simp] theorem State.mapLines_clock (f : LineNo → Line → Line) : (s.mapLines f).clock = s.clock := rfl
@[simp] theorem State.mapLines_round (f : LineNo → Line → Line) : (s.mapLines f).round = s.round := rfl
@[simp] theorem State.mapLines_ladder (f : LineNo → Line → Line) : (s.mapLines f).ladder = s.ladder := rfl
@[simp] theorem State.mapLines_sheet (f : LineNo → Line → Line) : (s.mapLines f).sheet = s.sheet := rfl
@[simp] theorem State.mapLines_standings (f : LineNo → Line → Line) : (s.mapLines f).standings = s.standings := rfl
@[simp] theorem State.mapLines_boards (f : LineNo → Line → Line) : (s.mapLines f).boards = s.boards := rfl
@[simp] theorem State.mapLines_rules (f : LineNo → Line → Line) : (s.mapLines f).rules = s.rules := rfl
@[simp] theorem State.mapLines_store (f : LineNo → Line → Line) : (s.mapLines f).store = s.store := rfl
@[simp] theorem State.mapLines_storing (f : LineNo → Line → Line) : (s.mapLines f).storing = s.storing := rfl
@[simp] theorem State.mapLines_recalling (f : LineNo → Line → Line) : (s.mapLines f).recalling = s.recalling := rfl
@[simp] theorem State.mapLines_requests (f : LineNo → Line → Line) : (s.mapLines f).requests = s.requests := rfl
@[simp] theorem State.mapLines_inProcess (f : LineNo → Line → Line) : (s.mapLines f).inProcess = s.inProcess := rfl
@[simp] theorem State.mapLines_answers (f : LineNo → Line → Line) : (s.mapLines f).answers = s.answers := rfl
@[simp] theorem State.mapLines_notices (f : LineNo → Line → Line) : (s.mapLines f).notices = s.notices := rfl
@[simp] theorem State.mapLines_watchdog (f : LineNo → Line → Line) : (s.mapLines f).watchdog = s.watchdog := rfl
@[simp] theorem State.mapLines_consoleLost (f : LineNo → Line → Line) :
    (s.mapLines f).consoleLost = s.consoleLost := rfl
@[simp] theorem State.mapLines_targetAddress (f : LineNo → Line → Line) :
    (s.mapLines f).targetAddress = s.targetAddress := rfl
@[simp] theorem State.mapLines_reveal (f : LineNo → Line → Line) : (s.mapLines f).reveal = s.reveal := rfl
@[simp] theorem State.mapLines_bus (f : LineNo → Line → Line) : (s.mapLines f).bus = s.bus := rfl

/-! ## setNotice -/

@[simp] theorem State.setNotice_pending (k : Notice) : (s.setNotice k).pending = s.pending := rfl
@[simp] theorem State.setNotice_freeIndex (k : Notice) : (s.setNotice k).freeIndex = s.freeIndex := rfl
@[simp] theorem State.setNotice_phase (k : Notice) : (s.setNotice k).phase = s.phase := rfl
@[simp] theorem State.setNotice_teams (k : Notice) : (s.setNotice k).teams = s.teams := rfl
@[simp] theorem State.setNotice_seats (k : Notice) : (s.setNotice k).seats = s.seats := rfl
@[simp] theorem State.setNotice_lines (k : Notice) : (s.setNotice k).lines = s.lines := rfl
@[simp] theorem State.setNotice_clock (k : Notice) : (s.setNotice k).clock = s.clock := rfl
@[simp] theorem State.setNotice_round (k : Notice) : (s.setNotice k).round = s.round := rfl
@[simp] theorem State.setNotice_ladder (k : Notice) : (s.setNotice k).ladder = s.ladder := rfl
@[simp] theorem State.setNotice_sheet (k : Notice) : (s.setNotice k).sheet = s.sheet := rfl
@[simp] theorem State.setNotice_standings (k : Notice) : (s.setNotice k).standings = s.standings := rfl
@[simp] theorem State.setNotice_boards (k : Notice) : (s.setNotice k).boards = s.boards := rfl
@[simp] theorem State.setNotice_rules (k : Notice) : (s.setNotice k).rules = s.rules := rfl
@[simp] theorem State.setNotice_store (k : Notice) : (s.setNotice k).store = s.store := rfl
@[simp] theorem State.setNotice_storing (k : Notice) : (s.setNotice k).storing = s.storing := rfl
@[simp] theorem State.setNotice_recalling (k : Notice) : (s.setNotice k).recalling = s.recalling := rfl
@[simp] theorem State.setNotice_requests (k : Notice) : (s.setNotice k).requests = s.requests := rfl
@[simp] theorem State.setNotice_inProcess (k : Notice) : (s.setNotice k).inProcess = s.inProcess := rfl
@[simp] theorem State.setNotice_answers (k : Notice) : (s.setNotice k).answers = s.answers := rfl
@[simp] theorem State.setNotice_notices (k : Notice) : (s.setNotice k).notices = s.notices ||| k.mask := rfl
@[simp] theorem State.setNotice_watchdog (k : Notice) : (s.setNotice k).watchdog = s.watchdog := rfl
@[simp] theorem State.setNotice_consoleLost (k : Notice) : (s.setNotice k).consoleLost = s.consoleLost := rfl
@[simp] theorem State.setNotice_targetAddress (k : Notice) : (s.setNotice k).targetAddress = s.targetAddress := rfl
@[simp] theorem State.setNotice_reveal (k : Notice) : (s.setNotice k).reveal = s.reveal := rfl
@[simp] theorem State.setNotice_bus (k : Notice) : (s.setNotice k).bus = s.bus := rfl

/-! ## Records read after an update of other records -/

@[simp] theorem State.setTeam_seat (t : TeamNo) (x : Team) (i' : SeatNo) :
    (s.setTeam t x).seat i' = s.seat i' := rfl
@[simp] theorem State.setTeam_line (t : TeamNo) (x : Team) (n' : LineNo) :
    (s.setTeam t x).line n' = s.line n' := rfl
@[simp] theorem State.setTeam_board (t : TeamNo) (x : Team) (b' : BoardNo) :
    (s.setTeam t x).board b' = s.board b' := rfl
@[simp] theorem State.setTeam_entry (t : TeamNo) (x : Team) (i' : SeatNo) :
    (s.setTeam t x).entry i' = s.entry i' := rfl
@[simp] theorem State.setTeam_rule (t : TeamNo) (x : Team) (r' : RuleId) :
    (s.setTeam t x).rule r' = s.rule r' := rfl
@[simp] theorem State.setTeam_lineEnabled (t : TeamNo) (x : Team) (n' : LineNo) :
    (s.setTeam t x).lineEnabled n' = s.lineEnabled n' := rfl
@[simp] theorem State.setTeam_fitted (t : TeamNo) (x : Team) (i' : SeatNo) :
    (s.setTeam t x).fitted i' = s.fitted i' := rfl
@[simp] theorem State.setTeam_roundActive (t : TeamNo) (x : Team) :
    (s.setTeam t x).roundActive = s.roundActive := rfl
@[simp] theorem State.setTeam_powered (t : TeamNo) (x : Team) :
    (s.setTeam t x).powered = s.powered := rfl
@[simp] theorem State.setSeat_team (i : SeatNo) (x : Seat) (t' : TeamNo) :
    (s.setSeat i x).team t' = s.team t' := rfl
@[simp] theorem State.setSeat_line (i : SeatNo) (x : Seat) (n' : LineNo) :
    (s.setSeat i x).line n' = s.line n' := rfl
@[simp] theorem State.setSeat_board (i : SeatNo) (x : Seat) (b' : BoardNo) :
    (s.setSeat i x).board b' = s.board b' := rfl
@[simp] theorem State.setSeat_entry (i : SeatNo) (x : Seat) (i' : SeatNo) :
    (s.setSeat i x).entry i' = s.entry i' := rfl
@[simp] theorem State.setSeat_rule (i : SeatNo) (x : Seat) (r' : RuleId) :
    (s.setSeat i x).rule r' = s.rule r' := rfl
@[simp] theorem State.setSeat_lineEnabled (i : SeatNo) (x : Seat) (n' : LineNo) :
    (s.setSeat i x).lineEnabled n' = s.lineEnabled n' := rfl
@[simp] theorem State.setSeat_fitted (i : SeatNo) (x : Seat) (i' : SeatNo) :
    (s.setSeat i x).fitted i' = s.fitted i' := rfl
@[simp] theorem State.setSeat_roundActive (i : SeatNo) (x : Seat) :
    (s.setSeat i x).roundActive = s.roundActive := rfl
@[simp] theorem State.setSeat_powered (i : SeatNo) (x : Seat) :
    (s.setSeat i x).powered = s.powered := rfl
@[simp] theorem State.setLine_team (n : LineNo) (x : Line) (t' : TeamNo) :
    (s.setLine n x).team t' = s.team t' := rfl
@[simp] theorem State.setLine_seat (n : LineNo) (x : Line) (i' : SeatNo) :
    (s.setLine n x).seat i' = s.seat i' := rfl
@[simp] theorem State.setLine_board (n : LineNo) (x : Line) (b' : BoardNo) :
    (s.setLine n x).board b' = s.board b' := rfl
@[simp] theorem State.setLine_entry (n : LineNo) (x : Line) (i' : SeatNo) :
    (s.setLine n x).entry i' = s.entry i' := rfl
@[simp] theorem State.setLine_rule (n : LineNo) (x : Line) (r' : RuleId) :
    (s.setLine n x).rule r' = s.rule r' := rfl
@[simp] theorem State.setLine_lineEnabled (n : LineNo) (x : Line) (n' : LineNo) :
    (s.setLine n x).lineEnabled n' = s.lineEnabled n' := rfl
@[simp] theorem State.setLine_fitted (n : LineNo) (x : Line) (i' : SeatNo) :
    (s.setLine n x).fitted i' = s.fitted i' := rfl
@[simp] theorem State.setLine_roundActive (n : LineNo) (x : Line) :
    (s.setLine n x).roundActive = s.roundActive := rfl
@[simp] theorem State.setLine_powered (n : LineNo) (x : Line) :
    (s.setLine n x).powered = s.powered := rfl
@[simp] theorem State.setBoard_team (b : BoardNo) (x : Board) (t' : TeamNo) :
    (s.setBoard b x).team t' = s.team t' := rfl
@[simp] theorem State.setBoard_seat (b : BoardNo) (x : Board) (i' : SeatNo) :
    (s.setBoard b x).seat i' = s.seat i' := rfl
@[simp] theorem State.setBoard_line (b : BoardNo) (x : Board) (n' : LineNo) :
    (s.setBoard b x).line n' = s.line n' := rfl
@[simp] theorem State.setBoard_entry (b : BoardNo) (x : Board) (i' : SeatNo) :
    (s.setBoard b x).entry i' = s.entry i' := rfl
@[simp] theorem State.setBoard_rule (b : BoardNo) (x : Board) (r' : RuleId) :
    (s.setBoard b x).rule r' = s.rule r' := rfl
@[simp] theorem State.setBoard_lineEnabled (b : BoardNo) (x : Board) (n' : LineNo) :
    (s.setBoard b x).lineEnabled n' = s.lineEnabled n' := rfl
@[simp] theorem State.setBoard_fitted (b : BoardNo) (x : Board) (i' : SeatNo) :
    (s.setBoard b x).fitted i' = s.fitted i' := rfl
@[simp] theorem State.setBoard_roundActive (b : BoardNo) (x : Board) :
    (s.setBoard b x).roundActive = s.roundActive := rfl
@[simp] theorem State.setBoard_powered (b : BoardNo) (x : Board) :
    (s.setBoard b x).powered = s.powered := rfl
@[simp] theorem State.setEntry_team (i : SeatNo) (x : Option SheetEntry) (t' : TeamNo) :
    (s.setEntry i x).team t' = s.team t' := rfl
@[simp] theorem State.setEntry_seat (i : SeatNo) (x : Option SheetEntry) (i' : SeatNo) :
    (s.setEntry i x).seat i' = s.seat i' := rfl
@[simp] theorem State.setEntry_line (i : SeatNo) (x : Option SheetEntry) (n' : LineNo) :
    (s.setEntry i x).line n' = s.line n' := rfl
@[simp] theorem State.setEntry_board (i : SeatNo) (x : Option SheetEntry) (b' : BoardNo) :
    (s.setEntry i x).board b' = s.board b' := rfl
@[simp] theorem State.setEntry_rule (i : SeatNo) (x : Option SheetEntry) (r' : RuleId) :
    (s.setEntry i x).rule r' = s.rule r' := rfl
@[simp] theorem State.setEntry_lineEnabled (i : SeatNo) (x : Option SheetEntry) (n' : LineNo) :
    (s.setEntry i x).lineEnabled n' = s.lineEnabled n' := rfl
@[simp] theorem State.setEntry_fitted (i : SeatNo) (x : Option SheetEntry) (i' : SeatNo) :
    (s.setEntry i x).fitted i' = s.fitted i' := rfl
@[simp] theorem State.setEntry_roundActive (i : SeatNo) (x : Option SheetEntry) :
    (s.setEntry i x).roundActive = s.roundActive := rfl
@[simp] theorem State.setEntry_powered (i : SeatNo) (x : Option SheetEntry) :
    (s.setEntry i x).powered = s.powered := rfl
@[simp] theorem State.setRuleValue_team (r : RuleId) (v : Nat) (t' : TeamNo) :
    (s.setRuleValue r v).team t' = s.team t' := rfl
@[simp] theorem State.setRuleValue_seat (r : RuleId) (v : Nat) (i' : SeatNo) :
    (s.setRuleValue r v).seat i' = s.seat i' := rfl
@[simp] theorem State.setRuleValue_line (r : RuleId) (v : Nat) (n' : LineNo) :
    (s.setRuleValue r v).line n' = s.line n' := rfl
@[simp] theorem State.setRuleValue_board (r : RuleId) (v : Nat) (b' : BoardNo) :
    (s.setRuleValue r v).board b' = s.board b' := rfl
@[simp] theorem State.setRuleValue_entry (r : RuleId) (v : Nat) (i' : SeatNo) :
    (s.setRuleValue r v).entry i' = s.entry i' := rfl
@[simp] theorem State.setRuleValue_roundActive (r : RuleId) (v : Nat) :
    (s.setRuleValue r v).roundActive = s.roundActive := rfl
@[simp] theorem State.setRuleValue_powered (r : RuleId) (v : Nat) :
    (s.setRuleValue r v).powered = s.powered := rfl
@[simp] theorem State.mapTeams_seat (f : Team → Team) (i' : SeatNo) :
    (s.mapTeams f).seat i' = s.seat i' := rfl
@[simp] theorem State.mapTeams_line (f : Team → Team) (n' : LineNo) :
    (s.mapTeams f).line n' = s.line n' := rfl
@[simp] theorem State.mapTeams_board (f : Team → Team) (b' : BoardNo) :
    (s.mapTeams f).board b' = s.board b' := rfl
@[simp] theorem State.mapTeams_entry (f : Team → Team) (i' : SeatNo) :
    (s.mapTeams f).entry i' = s.entry i' := rfl
@[simp] theorem State.mapTeams_rule (f : Team → Team) (r' : RuleId) :
    (s.mapTeams f).rule r' = s.rule r' := rfl
@[simp] theorem State.mapTeams_lineEnabled (f : Team → Team) (n' : LineNo) :
    (s.mapTeams f).lineEnabled n' = s.lineEnabled n' := rfl
@[simp] theorem State.mapTeams_fitted (f : Team → Team) (i' : SeatNo) :
    (s.mapTeams f).fitted i' = s.fitted i' := rfl
@[simp] theorem State.mapTeams_roundActive (f : Team → Team) :
    (s.mapTeams f).roundActive = s.roundActive := rfl
@[simp] theorem State.mapTeams_powered (f : Team → Team) :
    (s.mapTeams f).powered = s.powered := rfl
@[simp] theorem State.mapSeats_team (f : Seat → Seat) (t' : TeamNo) :
    (s.mapSeats f).team t' = s.team t' := rfl
@[simp] theorem State.mapSeats_line (f : Seat → Seat) (n' : LineNo) :
    (s.mapSeats f).line n' = s.line n' := rfl
@[simp] theorem State.mapSeats_board (f : Seat → Seat) (b' : BoardNo) :
    (s.mapSeats f).board b' = s.board b' := rfl
@[simp] theorem State.mapSeats_entry (f : Seat → Seat) (i' : SeatNo) :
    (s.mapSeats f).entry i' = s.entry i' := rfl
@[simp] theorem State.mapSeats_rule (f : Seat → Seat) (r' : RuleId) :
    (s.mapSeats f).rule r' = s.rule r' := rfl
@[simp] theorem State.mapSeats_lineEnabled (f : Seat → Seat) (n' : LineNo) :
    (s.mapSeats f).lineEnabled n' = s.lineEnabled n' := rfl
@[simp] theorem State.mapSeats_fitted (f : Seat → Seat) (i' : SeatNo) :
    (s.mapSeats f).fitted i' = s.fitted i' := rfl
@[simp] theorem State.mapSeats_roundActive (f : Seat → Seat) :
    (s.mapSeats f).roundActive = s.roundActive := rfl
@[simp] theorem State.mapSeats_powered (f : Seat → Seat) :
    (s.mapSeats f).powered = s.powered := rfl
@[simp] theorem State.mapLines_team (f : LineNo → Line → Line) (t' : TeamNo) :
    (s.mapLines f).team t' = s.team t' := rfl
@[simp] theorem State.mapLines_seat (f : LineNo → Line → Line) (i' : SeatNo) :
    (s.mapLines f).seat i' = s.seat i' := rfl
@[simp] theorem State.mapLines_board (f : LineNo → Line → Line) (b' : BoardNo) :
    (s.mapLines f).board b' = s.board b' := rfl
@[simp] theorem State.mapLines_entry (f : LineNo → Line → Line) (i' : SeatNo) :
    (s.mapLines f).entry i' = s.entry i' := rfl
@[simp] theorem State.mapLines_rule (f : LineNo → Line → Line) (r' : RuleId) :
    (s.mapLines f).rule r' = s.rule r' := rfl
@[simp] theorem State.mapLines_lineEnabled (f : LineNo → Line → Line) (n' : LineNo) :
    (s.mapLines f).lineEnabled n' = s.lineEnabled n' := rfl
@[simp] theorem State.mapLines_fitted (f : LineNo → Line → Line) (i' : SeatNo) :
    (s.mapLines f).fitted i' = s.fitted i' := rfl
@[simp] theorem State.mapLines_roundActive (f : LineNo → Line → Line) :
    (s.mapLines f).roundActive = s.roundActive := rfl
@[simp] theorem State.mapLines_powered (f : LineNo → Line → Line) :
    (s.mapLines f).powered = s.powered := rfl
@[simp] theorem State.setNotice_team (k : Notice) (t' : TeamNo) :
    (s.setNotice k).team t' = s.team t' := rfl
@[simp] theorem State.setNotice_seat (k : Notice) (i' : SeatNo) :
    (s.setNotice k).seat i' = s.seat i' := rfl
@[simp] theorem State.setNotice_line (k : Notice) (n' : LineNo) :
    (s.setNotice k).line n' = s.line n' := rfl
@[simp] theorem State.setNotice_board (k : Notice) (b' : BoardNo) :
    (s.setNotice k).board b' = s.board b' := rfl
@[simp] theorem State.setNotice_entry (k : Notice) (i' : SeatNo) :
    (s.setNotice k).entry i' = s.entry i' := rfl
@[simp] theorem State.setNotice_rule (k : Notice) (r' : RuleId) :
    (s.setNotice k).rule r' = s.rule r' := rfl
@[simp] theorem State.setNotice_lineEnabled (k : Notice) (n' : LineNo) :
    (s.setNotice k).lineEnabled n' = s.lineEnabled n' := rfl
@[simp] theorem State.setNotice_fitted (k : Notice) (i' : SeatNo) :
    (s.setNotice k).fitted i' = s.fitted i' := rfl
@[simp] theorem State.setNotice_roundActive (k : Notice) :
    (s.setNotice k).roundActive = s.roundActive := rfl
@[simp] theorem State.setNotice_powered (k : Notice) :
    (s.setNotice k).powered = s.powered := rfl

/-! ## A record read after its own update -/

@[simp] theorem State.setTeam_team_same (t : TeamNo) (x : Team) : (s.setTeam t x).team t = x := by
  simp [State.setTeam, State.team]

theorem State.setTeam_team_of_ne (t t' : TeamNo) (x : Team) (h : t' ≠ t) : (s.setTeam t x).team t' = s.team t' := by
  simp only [State.setTeam, State.team, Fin.getElem_fin]
  exact Vector.getElem_set_ne _ _ fun e => h (Fin.ext e.symm)

theorem State.setTeam_team (t t' : TeamNo) (x : Team) :
    (s.setTeam t x).team t' = if t' = t then x else s.team t' := by
  split
  · next h => rw [h]; exact State.setTeam_team_same s t x
  · next h => exact State.setTeam_team_of_ne s t t' x h

@[simp] theorem State.setSeat_seat_same (i : SeatNo) (x : Seat) : (s.setSeat i x).seat i = x := by
  simp [State.setSeat, State.seat]

theorem State.setSeat_seat_of_ne (i i' : SeatNo) (x : Seat) (h : i' ≠ i) : (s.setSeat i x).seat i' = s.seat i' := by
  simp only [State.setSeat, State.seat, Fin.getElem_fin]
  exact Vector.getElem_set_ne _ _ fun e => h (Fin.ext e.symm)

theorem State.setSeat_seat (i i' : SeatNo) (x : Seat) :
    (s.setSeat i x).seat i' = if i' = i then x else s.seat i' := by
  split
  · next h => rw [h]; exact State.setSeat_seat_same s i x
  · next h => exact State.setSeat_seat_of_ne s i i' x h

@[simp] theorem State.setLine_line_same (n : LineNo) (x : Line) : (s.setLine n x).line n = x := by
  simp [State.setLine, State.line]

theorem State.setLine_line_of_ne (n n' : LineNo) (x : Line) (h : n' ≠ n) : (s.setLine n x).line n' = s.line n' := by
  simp only [State.setLine, State.line, Fin.getElem_fin]
  exact Vector.getElem_set_ne _ _ fun e => h (Fin.ext e.symm)

theorem State.setLine_line (n n' : LineNo) (x : Line) :
    (s.setLine n x).line n' = if n' = n then x else s.line n' := by
  split
  · next h => rw [h]; exact State.setLine_line_same s n x
  · next h => exact State.setLine_line_of_ne s n n' x h

@[simp] theorem State.setBoard_board_same (b : BoardNo) (x : Board) : (s.setBoard b x).board b = x := by
  simp [State.setBoard, State.board]

theorem State.setBoard_board_of_ne (b b' : BoardNo) (x : Board) (h : b' ≠ b) : (s.setBoard b x).board b' = s.board b' := by
  simp only [State.setBoard, State.board, Fin.getElem_fin]
  exact Vector.getElem_set_ne _ _ fun e => h (Fin.ext e.symm)

theorem State.setBoard_board (b b' : BoardNo) (x : Board) :
    (s.setBoard b x).board b' = if b' = b then x else s.board b' := by
  split
  · next h => rw [h]; exact State.setBoard_board_same s b x
  · next h => exact State.setBoard_board_of_ne s b b' x h

@[simp] theorem State.setEntry_entry_same (i : SeatNo) (x : Option SheetEntry) : (s.setEntry i x).entry i = x := by
  simp [State.setEntry, State.entry]

theorem State.setEntry_entry_of_ne (i i' : SeatNo) (x : Option SheetEntry) (h : i' ≠ i) : (s.setEntry i x).entry i' = s.entry i' := by
  simp only [State.setEntry, State.entry, Fin.getElem_fin]
  exact Vector.getElem_set_ne _ _ fun e => h (Fin.ext e.symm)

theorem State.setEntry_entry (i i' : SeatNo) (x : Option SheetEntry) :
    (s.setEntry i x).entry i' = if i' = i then x else s.entry i' := by
  split
  · next h => rw [h]; exact State.setEntry_entry_same s i x
  · next h => exact State.setEntry_entry_of_ne s i i' x h

@[simp] theorem State.setRuleValue_rule_same (r : RuleId) (x : Nat) : (s.setRuleValue r x).rule r = x := by
  simp [State.setRuleValue, State.rule]

theorem State.setRuleValue_rule_of_ne (r r' : RuleId) (x : Nat) (h : r' ≠ r) : (s.setRuleValue r x).rule r' = s.rule r' := by
  simp only [State.setRuleValue, State.rule, Fin.getElem_fin]
  exact Vector.getElem_set_ne _ _ fun e => h (Fin.ext e.symm)

theorem State.setRuleValue_rule (r r' : RuleId) (x : Nat) :
    (s.setRuleValue r x).rule r' = if r' = r then x else s.rule r' := by
  split
  · next h => rw [h]; exact State.setRuleValue_rule_same s r x
  · next h => exact State.setRuleValue_rule_of_ne s r r' x h

@[simp] theorem State.mapTeams_team (f : Team → Team) (t : TeamNo) : (s.mapTeams f).team t = f (s.team t) := by
  simp [State.mapTeams, State.team]

@[simp] theorem State.mapSeats_seat (f : Seat → Seat) (i : SeatNo) : (s.mapSeats f).seat i = f (s.seat i) := by
  simp [State.mapSeats, State.seat]

@[simp] theorem State.mapLines_line (f : LineNo → Line → Line) (n : LineNo) :
    (s.mapLines f).line n = f n (s.line n) := by
  simp [State.mapLines, State.line]

end Sys2Proof.Machine
end

