-- ==== Sys2Proof/Laws/Frames.lean ====
section
/-! SUPPORT. For each shared operation, once, everything it can change. A view such as `State.outsideLamps` blanks out the
fields that a group of operations may write; a frame lemma says that an operation leaves the view as it was, and so every
field outside the group: the equality of one such field follows with `congrArg`. -/

namespace Sys2Proof.Machine

/-- The state but for the seat lines. -/
def State.outsideLines (s : State) : State := { s with lines := Vector.replicate 4 Line.initial }

/-- The state but for what a lamp write reaches: seats and seat lines. -/
def State.outsideLamps (s : State) : State :=
  { s with seats := Vector.replicate 128 Seat.initial, lines := Vector.replicate 4 Line.initial }

/-- The state but for what reception reaches: seat lines and notices. -/
def State.outsideReception (s : State) : State := { s with lines := Vector.replicate 4 Line.initial, notices := 0#24 }

/-- The state but for the board drivers. -/
def State.outsideBoards (s : State) : State := { s with boards := Vector.replicate 2 Board.initial }

/-- The state but for what a score reaches: teams, Standings and board drivers. -/
def State.outsideScores (s : State) : State :=
  { s with teams := Vector.replicate 16 Team.initial, standings := [], boards := Vector.replicate 2 Board.initial }

/-- The state but for the contest: what presses, verdicts and round events reach. -/
def State.outsideContest (s : State) : State :=
  { s with
    teams := Vector.replicate 16 Team.initial, seats := Vector.replicate 128 Seat.initial
    lines := Vector.replicate 4 Line.initial, clock := Clock.initial, round := Round.initial, ladder := []
    sheet := Vector.replicate 128 none, standings := [], boards := Vector.replicate 2 Board.initial, notices := 0#24 }

/-- The state but for the contest and what a write of a rule reaches. -/
def State.outsideRules (s : State) : State :=
  { s.outsideContest with rules := Rules.default, watchdog := .unarmed }

variable {s t : State}

theorem State.outsideContest_of_lamps (h : t.outsideLamps = s.outsideLamps) : t.outsideContest = s.outsideContest := by
  have e := congrArg State.outsideContest h; exact e

theorem State.outsideContest_of_lines (h : t.outsideLines = s.outsideLines) : t.outsideContest = s.outsideContest := by
  have e := congrArg State.outsideContest h; exact e

theorem State.outsideLamps_of_lines (h : t.outsideLines = s.outsideLines) : t.outsideLamps = s.outsideLamps := by
  have e := congrArg State.outsideLamps h; exact e

theorem State.outsideContest_of_reception (h : t.outsideReception = s.outsideReception) :
    t.outsideContest = s.outsideContest := by
  have e := congrArg State.outsideContest h; exact e

theorem State.outsideScores_of_boards (h : t.outsideBoards = s.outsideBoards) : t.outsideScores = s.outsideScores := by
  have e := congrArg State.outsideScores h; exact e

theorem State.outsideContest_of_boards (h : t.outsideBoards = s.outsideBoards) :
    t.outsideContest = s.outsideContest := by
  have e := congrArg State.outsideContest h; exact e

theorem State.outsideContest_of_scores (h : t.outsideScores = s.outsideScores) :
    t.outsideContest = s.outsideContest := by
  have e := congrArg State.outsideContest h; exact e

theorem State.outsideRules_of_contest (h : t.outsideContest = s.outsideContest) : t.outsideRules = s.outsideRules := by
  have e := congrArg State.outsideRules h; exact e

/-- A fold of writes that each keep a view keeps it. -/
theorem foldl_keeps {α β : Type} (view : State → β) (f : State → α → State) (h : ∀ s a, view (f s a) = view s)
    (l : List α) (s : State) : view (l.foldl f s) = view s := by
  induction l generalizing s with
  | nil => rfl
  | cons a l ih => rw [List.foldl_cons, ih, h]

variable (s t)

/-! ## Seat lines -/

theorem State.queueOn_frame (n : LineNo) (f : Line → Line) : (s.queueOn n f).outsideLines = s.outsideLines := by
  unfold State.queueOn; split <;> rfl

theorem lampWrite_frame (i : SeatNo) (v : Lamp) : (lampWrite i v s).outsideLamps = s.outsideLamps :=
  (State.outsideLamps_of_lines (State.queueOn_frame (s.setSeat i { s.seat i with lamp := v }) _ _)).trans rfl

theorem lampWrites_frame (v : SeatNo → Option Lamp) : (lampWrites v s).outsideLamps = s.outsideLamps := by
  refine foldl_keeps _ _ (fun s i => ?_) _ _
  split
  · exact lampWrite_frame _ _ _
  · rfl

theorem lampWrite_contest (i : SeatNo) (v : Lamp) : (lampWrite i v s).outsideContest = s.outsideContest :=
  State.outsideContest_of_lamps (lampWrite_frame s i v)

theorem lampWrites_contest (v : SeatNo → Option Lamp) : (lampWrites v s).outsideContest = s.outsideContest :=
  State.outsideContest_of_lamps (lampWrites_frame s v)

theorem queueMarks_frame (m : Mark) : (queueMarks m s).outsideLines = s.outsideLines := rfl

theorem kickLines_frame : (kickLines s).outsideLines = s.outsideLines := rfl

theorem endEvent_frame : (endEvent s t).outsideLines = t.outsideLines := by unfold endEvent; split <;> rfl

theorem startEdge_frame (n : LineNo) (b : Bool) : (startEdge n b s).outsideLines = s.outsideLines := by
  unfold startEdge; split <;> rfl

theorem downstreamFrameEnd_frame (n : LineNo) : (downstreamFrameEnd n s).outsideLines = s.outsideLines := by
  unfold downstreamFrameEnd; split <;> rfl

theorem placeFrame_frame (n : LineNo) (f : SeatFrame) : (placeFrame n f s).outsideReception = s.outsideReception := by
  unfold placeFrame; split <;> rfl

theorem assemble_frame (n : LineNo) (c : Byte) (clock : Nat) (stopped : Bool) :
    (assemble n c clock stopped s).outsideReception = s.outsideReception := by
  unfold assemble
  dsimp only
  split
  · split <;> rfl
  · split
    · rfl
    · split
      · split
        · exact placeFrame_frame _ _ _
        · rfl
      · rfl

theorem characterEnd_frame (n : LineNo) (c : Byte) :
    (characterEnd n c s).outsideReception = s.outsideReception := by
  unfold characterEnd
  split
  · split
    · exact (congrArg State.outsideReception (endEvent_frame s _)).trans (assemble_frame _ _ _ _ _)
    · rfl
  · rfl

theorem gapLimit_frame (n : LineNo) : (gapLimit n s).outsideReception = s.outsideReception := by
  unfold gapLimit; split <;> rfl

/-! ## Boards and Standings -/

theorem startImage_frame (b : BoardNo) (k : ImageKind) : (startImage b k s).outsideBoards = s.outsideBoards := rfl

theorem sendImage_frame (b : BoardNo) (k : Option ImageKind) : (sendImage b k s).outsideBoards = s.outsideBoards := by
  unfold sendImage; split
  · rfl
  · split <;> rfl

theorem enterMode_frame (b : BoardNo) (m : BoardMode) : (enterMode b m s).outsideBoards = s.outsideBoards :=
  sendImage_frame _ _ _

theorem resolveBoard_frame (b : BoardNo) : (resolveBoard b s).outsideBoards = s.outsideBoards := by
  unfold resolveBoard; split
  · rfl
  · exact enterMode_frame _ _ _

theorem resolveBoards_frame : (resolveBoards s).outsideBoards = s.outsideBoards :=
  (resolveBoard_frame _ 1).trans (resolveBoard_frame _ 0)

theorem takeStandingsChange_frame (b : BoardNo) : (takeStandingsChange b s).outsideBoards = s.outsideBoards := by
  unfold takeStandingsChange; split
  · exact sendImage_frame _ _ _
  · rfl

theorem transferEnd_frame (b : BoardNo) : (transferEnd b s).outsideBoards = s.outsideBoards := by
  unfold transferEnd
  dsimp only
  split
  · rfl
  · split
    · split <;> rfl
    · rfl

theorem updateStandings_frame : (updateStandings s).outsideScores = s.outsideScores :=
  (State.outsideScores_of_boards ((takeStandingsChange_frame _ 1).trans (takeStandingsChange_frame (updateList s) 0))).trans rfl

theorem writeScore_frame (i : TeamNo) (x : Team) : (writeScore i x s).outsideScores = s.outsideScores := by
  unfold writeScore; split
  · exact updateStandings_frame _
  · rfl

theorem scorePoll_frame (key : Nat) : (scorePoll key s).outsideScores = s.outsideScores := by
  unfold scorePoll; dsimp only; split
  · exact updateStandings_frame _
  · rfl

/-! ## Rounds and the ladder -/

/-- What a closing round writes but for the boards, which resolve (R93). -/
theorem closeRound_spec (o : RoundOutcome) :
    (closeRound o s).outsideBoards = State.outsideBoards { s with
      round := { s.round with state := .closed, outcome := some o }
      teams := s.teams.map fun t => { t with locked := false }
      seats := s.seats.map fun x => { x with locked := false }
      ladder := [], clock := { Clock.initial with count := s.clock.count }
      notices := s.notices ||| Notice.roundClosed.mask } := resolveBoards_frame _

/-- What a taken OPEN ROUND writes but for the boards, which resolve (R79). -/
theorem openRound_spec (k : RoundKind) (w : Nat) :
    (openRound k w s).outsideBoards = State.outsideBoards { s with
      round := { state := .opened, body := some { kind := k, window := w, closeInstant := w, copy := s.takeCopy },
                 outcome := none, tieStart := s.round.tieStart + 1 }
      clock := { Clock.initial with running := true, windowEnd := some w }
      teams := s.teams.map fun t => { t with locked := false }
      seats := s.seats.map fun x => { x with locked := false, lamp := .idle }
      ladder := [], sheet := Vector.replicate 128 none
      lines := Vector.ofFn fun n => if s.lineEnabled n then (s.line n).roundOpened k.openMark else s.line n } :=
  resolveBoards_frame _

theorem closeRound_frame (o : RoundOutcome) : (closeRound o s).outsideContest = s.outsideContest :=
  (State.outsideContest_of_boards (closeRound_spec s o)).trans rfl

theorem openRound_frame (k : RoundKind) (w : Nat) : (openRound k w s).outsideContest = s.outsideContest :=
  (State.outsideContest_of_boards (openRound_spec s k w)).trans rfl

theorem callHead_frame : (callHead s).outsideContest = s.outsideContest := by
  unfold callHead; split
  · rfl
  · change (lampWrite _ _ _).outsideContest = _
    exact (lampWrite_contest _ _ _).trans rfl

theorem rearmCall_frame : (rearmCall s).outsideContest = s.outsideContest := by
  unfold rearmCall; split
  · rfl
  · split
    · rfl
    · dsimp only; split
      · exact callHead_frame _
      · rfl

theorem ladderGoesOn_frame : (ladderGoesOn s).outsideContest = s.outsideContest := by
  unfold ladderGoesOn; split
  · exact closeRound_frame _ _
  · exact rearmCall_frame _

theorem callEvent_frame : (callEvent s).outsideContest = s.outsideContest := by
  unfold callEvent; split
  · exact (State.outsideContest_of_lines (endEvent_frame _ _)).trans (callHead_frame _)
  · rfl

theorem verdictLamps_frame (c : Claim) (v : Lamp) : (verdictLamps c v s).outsideLamps = s.outsideLamps :=
  lampWrites_frame _ _

theorem judgeRight_frame (c : Claim) : (judgeRight c s).outsideContest = s.outsideContest :=
  (closeRound_frame _ _).trans ((lampWrites_contest _ _).trans ((lampWrite_contest _ _ _).trans
    (State.outsideContest_of_scores (writeScore_frame _ _ _))))

theorem removeCalled_frame (c : Claim) : (removeCalled c s).outsideContest = s.outsideContest := rfl

theorem lockTeam_frame (i : TeamNo) : (lockTeam i s).outsideContest = s.outsideContest := rfl

theorem judgeWrong_frame (c : Claim) : (judgeWrong c s).outsideContest = s.outsideContest :=
  (ladderGoesOn_frame _).trans ((removeCalled_frame _ _).trans ((lampWrites_contest _ _).trans
    ((lockTeam_frame _ _).trans (State.outsideContest_of_scores (writeScore_frame _ _ _)))))

theorem judgePass_frame (c : Claim) : (judgePass c s).outsideContest = s.outsideContest :=
  (ladderGoesOn_frame _).trans ((removeCalled_frame _ _).trans ((lampWrites_contest _ _).trans (lockTeam_frame _ _)))

theorem timeOut_frame (c : Claim) : (timeOut c s).outsideContest = s.outsideContest := by
  unfold timeOut; split
  · exact (judgeWrong_frame _ _).trans rfl
  · exact (judgePass_frame _ _).trans rfl

theorem judgeDeadlineEvent_frame : (judgeDeadlineEvent s).outsideContest = s.outsideContest := by
  unfold judgeDeadlineEvent; split
  · split
    · exact (State.outsideContest_of_lines (endEvent_frame _ _)).trans ((timeOut_frame _ _).trans rfl)
    · rfl
  · rfl

theorem dropClaim_frame (c : Claim) : (dropClaim c s).outsideContest = s.outsideContest := by
  unfold dropClaim; split
  · refine (ladderGoesOn_frame _).trans ?_
    change (lampWrite _ _ _).outsideContest = _
    exact lampWrite_contest _ _ _
  · exact (ladderGoesOn_frame _).trans ((lampWrite_contest _ _ _).trans rfl)

theorem dropTeamClaim_frame (i : TeamNo) : (dropTeamClaim i s).outsideContest = s.outsideContest := by
  unfold dropTeamClaim; split
  · exact dropClaim_frame _ _
  · rfl

theorem dropSeatClaim_frame (i : SeatNo) : (dropSeatClaim i s).outsideContest = s.outsideContest := by
  unfold dropSeatClaim; split
  · exact dropClaim_frame _ _
  · rfl

theorem unbindSeat_frame (i : SeatNo) : (unbindSeat i s).outsideContest = s.outsideContest := by
  unfold unbindSeat; dsimp only; split
  · rfl
  · change (lampWrite _ _ _).outsideContest = _
    exact (lampWrite_contest _ _ _).trans ((rfl : _ = (dropSeatClaim i s).outsideContest).trans (dropSeatClaim_frame s i))

theorem lockOutTeam_frame (i : TeamNo) : (lockOutTeam i s).outsideContest = s.outsideContest := by
  unfold lockOutTeam; dsimp only
  refine (State.outsideContest_of_lamps (lampWrites_frame _ _)).trans ?_
  split
  · exact (rearmCall_frame _).trans rfl
  · rfl

theorem insertClaim_frame (t : TeamNo) (i : SeatNo) (offset : Nat) :
    (insertClaim t i offset s).outsideContest = s.outsideContest :=
  (rearmCall_frame _).trans ((lampWrite_contest _ _ _).trans rfl)

theorem replaceClaim_frame (old : Claim) (i : SeatNo) (offset : Nat) :
    (replaceClaim old i offset s).outsideContest = s.outsideContest := by
  unfold replaceClaim; dsimp only
  refine (rearmCall_frame _).trans ((State.outsideContest_of_lamps (lampWrite_frame _ _ _)).trans ?_)
  split
  · rfl
  · exact (lampWrite_contest _ _ _).trans rfl

theorem ladderPress_frame (i : TeamNo) (f : SeatFrame) : (ladderPress i f s).outsideContest = s.outsideContest := by
  unfold ladderPress; dsimp only
  split; · rfl
  split; · rfl
  split; · rfl
  split
  · split
    · exact lockOutTeam_frame _ _
    · rfl
  split; · rfl
  split
  · split
    · exact replaceClaim_frame _ _ _ _
    · rfl
  · exact insertClaim_frame _ _ _ _

theorem sheetPress_frame (k : Nat) (f : SeatFrame) : (sheetPress k f s).outsideContest = s.outsideContest := by
  unfold sheetPress
  split; · rfl
  split; · rfl
  split; · rfl
  split
  · split
    · exact (lampWrite_contest _ _ _).trans rfl
    · rfl
  split; · rfl
  split
  · exact (lampWrite_contest _ _ _).trans rfl
  · split
    · exact (lampWrite_contest _ _ _).trans rfl
    · rfl

theorem handPress_frame (f : SeatFrame) : (handPress f s).outsideContest = s.outsideContest := by
  unfold handPress
  split; swap; · rfl
  split; swap; · rfl
  split; swap; · rfl
  split
  · split
    · exact ladderPress_frame _ _ _
    · rfl
  · split
    · exact sheetPress_frame _ _ _
    · rfl
  · rfl

theorem updatePresence_frame (f : SeatFrame) : (updatePresence f s).outsideContest = s.outsideContest := by
  unfold updatePresence writePresence; dsimp only; split <;> split <;> rfl

theorem seatTableTake_frame (n : LineNo) : (seatTableTake n s).outsideContest = s.outsideContest := by
  unfold seatTableTake
  split
  · rfl
  · split
    · exact (State.outsideContest_of_lines (endEvent_frame _ _)).trans
        ((handPress_frame _ _).trans ((updatePresence_frame _ _).trans rfl))
    · rfl

theorem housekeepingExpiry_frame : (housekeepingExpiry s).outsideContest = s.outsideContest := by
  unfold housekeepingExpiry; dsimp only
  split
  · split <;> rfl
  · rfl

theorem settle_frame : (settle s).outsideContest = s.outsideContest := by
  unfold settle
  split
  · split
    · exact closeRound_frame _ _
    · rfl
  · exact (closeRound_frame _ _).trans (State.outsideContest_of_scores (scorePoll_frame _ _))
  · rfl
  · rfl

theorem windowEnd_frame : (windowEnd s).outsideContest = s.outsideContest := by unfold windowEnd; split <;> rfl

theorem settlingEnd_frame : (settlingEnd s).outsideContest = s.outsideContest := by
  unfold settlingEnd
  split
  · exact (State.outsideContest_of_lines (endEvent_frame _ _)).trans ((settle_frame _).trans rfl)
  · rfl

/-! ## Rule Memory and the watchdog -/

/-- The taking of a valid request reaches the watchdog, the CONSOLE_LOST condition and the boards (R190). -/
theorem requestTaken_frame :
    (requestTaken s).outsideBoards =
      State.outsideBoards { s with consoleLost := false, watchdog := s.armedWatchdog s.watchdog } := by
  unfold requestTaken; dsimp only
  split
  · have h := resolveBoards_frame { s with consoleLost := false }
    have hr := congrArg State.rules h
    have := congrArg (fun x : State => { x with watchdog := s.armedWatchdog s.watchdog }) h
    simp only [State.outsideBoards] at hr this ⊢
    simp only [State.armedWatchdog, State.rule, hr] at this ⊢
    exact this
  · next h => simp only [Bool.not_eq_true] at h; simp only [State.outsideBoards, ← h]

theorem writeRule_frame (r : RuleId) (v : Nat) : (writeRule r v s).outsideRules = s.outsideRules := by
  unfold writeRule; dsimp only
  split
  · rfl
  · rfl
  · rfl
  · rfl
  · rfl
  · unfold applyThresholds lowerFollows; split <;> rfl
  · rfl
  · rfl
  · rfl
  · rfl
  · exact (State.outsideRules_of_contest (State.outsideContest_of_boards (resolveBoard_frame _ 0))).trans rfl
  · exact (State.outsideRules_of_contest (State.outsideContest_of_boards (resolveBoard_frame _ 1))).trans rfl
  · rfl

theorem recallWrites_frame (m : RuleStore) : (recallWrites m s).outsideRules = s.outsideRules :=
  foldl_keeps _ _ (fun _ _ => writeRule_frame _ _ _) _ _

theorem bindSeat_frame (i : SeatNo) (x : TeamNo) : (bindSeat i x s).outsideContest = s.outsideContest :=
  (rfl : _ = (unbindSeat i s).outsideContest).trans (unbindSeat_frame _ _)

theorem unbindMembers_frame (x : TeamNo) : (unbindMembers x s).outsideContest = s.outsideContest :=
  foldl_keeps State.outsideContest _ (fun _ _ => unbindSeat_frame _ _) _ _

theorem retireTeam_frame (x : TeamNo) : (retireTeam x s).outsideContest = s.outsideContest := by
  unfold retireTeam; dsimp only
  refine (State.outsideContest_of_scores (updateStandings_frame _)).trans ?_
  change (unbindMembers _ _).outsideContest = _
  exact (unbindMembers_frame _ _).trans (dropTeamClaim_frame _ _)

theorem benchTeam_frame (x : TeamNo) : (benchTeam x s).outsideContest = s.outsideContest :=
  (dropTeamClaim_frame _ _).trans rfl

end Sys2Proof.Machine
end

