-- ==== Sys2Proof/Laws/Port.lean ====
section
/-! SUPPORT. For each operation of the console port, once, everything it can do: which of its branches it takes, with the
condition of that branch. The provers cite these in place of unfolding the port. -/

namespace Sys2Proof.Machine

variable {s t : State}

@[simp] theorem placeAnswer_inProcess (c : Bool) (r : Reply) : (placeAnswer c r s).inProcess = none := rfl
@[simp] theorem placeAnswer_answers (c : Bool) (r : Reply) :
    (placeAnswer c r s).answers = s.answers ++ [answerBytes s.targetAddress c r] := rfl

/-- Placing an answer changes the answer slots and the mark of the request in process, and nothing else. -/
theorem placeAnswer_frame (c : Bool) (r : Reply) :
    { placeAnswer c r s with answers := s.answers, inProcess := s.inProcess } = s := rfl

/-- A port whose request slots are empty takes nothing. -/
theorem takeRequest_of_empty (h : s.requests = []) : takeRequest s = s := by simp [takeRequest, h]

/-- A port with a request in process, or with no answer slot free, takes nothing. -/
theorem takeRequest_of_busy (h : s.inProcess.isSome ∨ 2 ≤ s.answers.length) : takeRequest s = s := by
  unfold takeRequest
  split
  · rfl
  · split
    · next hc => rcases h with h | h
                 · simp [Option.isNone_iff_eq_none.mp hc.1] at h
                 · omega
    · rfl

/-- A port with no request in process and an answer slot free takes the oldest request. -/
theorem takeRequest_of_ready {slot : RequestSlot} {rest : List RequestSlot} (h : s.requests = slot :: rest)
    (hp : s.inProcess = none) (ha : s.answers.length < 2) :
    takeRequest s = handleRequest slot { s with requests := rest } := by simp [takeRequest, h, hp, ha]

/-- A request that framing refuses has its refusal placed, and nothing else happens. -/
theorem handleRequest_of_error {slot : RequestSlot} {status : Status}
    (h : judgeFraming s.targetAddress (s.rule Rule.checkRequired) slot = .error status) :
    handleRequest slot s = placeAnswer slot.flagged status.bare s := by simp [handleRequest, h]

/-- A request that framing admits is handed to its owning block. -/
theorem handleRequest_of_ok {slot : RequestSlot} {r : Request}
    (h : judgeFraming s.targetAddress (s.rule Rule.checkRequired) slot = .ok r) :
    handleRequest slot s = takeValid slot.flagged r s := by simp [handleRequest, h]

/-- A valid request with a reply: the reply is placed in the state that the owning block leaves. -/
theorem takeValid_of_reply {c : Bool} {r : Request} {reply : Reply}
    (h : serve s.consoleLost r (requestTaken s) = (t, some reply)) : takeValid c r s = placeAnswer c reply t := by
  simp [takeValid, h]

/-- A recall that runs: no answer is placed, and the request stays in process. -/
theorem takeValid_of_recall {c : Bool} {r : Request} (h : serve s.consoleLost r (requestTaken s) = (t, none)) :
    takeValid c r s = { t with inProcess := some c } := by simp [takeValid, h]

/-- A transaction that is not acknowledged changes the bus record alone. -/
theorem refuseAddress_frame : { refuseAddress s with bus := s.bus } = s := rfl

/-- A write that is not acknowledged. -/
theorem consoleWrite_of_refused {address : BitVec 7} (bytes : List Byte) (h : s.acksWrite address = false) :
    consoleWrite address bytes s = refuseAddress s := by simp [consoleWrite, h]

/-- An acknowledged write that stores bytes: its slot joins the request slots, and the port takes what it may. -/
theorem consoleWrite_of_stored {address : BitVec 7} {bytes : List Byte} {slot : RequestSlot}
    (h : s.acksWrite address = true) (hb : storedSlot bytes = some slot) :
    consoleWrite address bytes s = takeRequest { s with
      bus := { acknowledged := true :: byteAcks bytes, shifted := [] }, requests := s.requests ++ [slot] } := by
  simp [consoleWrite, h, hb]

/-- A read that is not acknowledged. -/
theorem consoleRead_of_refused {address : BitVec 7} (acks : List Bool) (h : s.acksRead address = false) :
    consoleRead address acks s = refuseAddress s := by simp [consoleRead, h]

@[simp] theorem carriedCount_nil : carriedCount [] = 0 := rfl
@[simp] theorem carriedCount_acked (later : List Bool) : carriedCount (true :: later) = carriedCount later + 1 := rfl
@[simp] theorem carriedCount_refused (later : List Bool) : carriedCount (false :: later) = 1 := rfl

/-- A read carries at least `k + 1` bytes exactly when so many were clocked and the first `k` were acknowledged. -/
theorem lt_carriedCount {acks : List Bool} {k : Nat} :
    k < carriedCount acks ↔ k < acks.length ∧ ∀ j < k, acks[j]? = some true := by
  induction acks generalizing k with
  | nil => simp
  | cons a later ih =>
    cases k with
    | zero => cases a <;> simp
    | succ k =>
      cases a with
      | false => simp; exact fun _ => ⟨0, by omega, by simp⟩
      | true =>
        simp only [carriedCount_acked, Nat.add_lt_add_iff_right, ih, List.length_cons]
        refine and_congr_right fun _ => ⟨fun h j hj => ?_, fun h j hj => by simpa using h (j + 1) (by omega)⟩
        cases j with
        | zero => simp
        | succ j => simpa using h j (by omega)

/-- A read that shifts out all of the oldest answer frees it, and lets a waiting request be taken. -/
theorem consoleRead_of_complete {address : BitVec 7} {acks : List Bool} {answer : List Byte} {rest : List (List Byte)}
    (h : s.acksRead address = true) (ha : s.answers = answer :: rest) (hl : answer.length ≤ carriedCount acks) :
    consoleRead address acks s = takeRequest { s with
      bus := { acknowledged := [true], shifted := answer ++ List.replicate (acks.length - answer.length) 0xFF#8 }
      answers := rest } := by simp [consoleRead, h, ha, hl]

/-- A read that ends sooner changes the record of the bus alone. -/
theorem consoleRead_of_short {address : BitVec 7} {acks : List Bool} {answer : List Byte} {rest : List (List Byte)}
    (h : s.acksRead address = true) (ha : s.answers = answer :: rest) (hl : carriedCount acks < answer.length) :
    consoleRead address acks s =
      { s with bus := { acknowledged := [true], shifted := answer.take (carriedCount acks) } } := by
  have : ¬ answer.length ≤ carriedCount acks := by omega
  simp [consoleRead, h, ha, this]

/-- A write whose length agrees with its second header byte is stored whole, without either mark. -/
theorem storedSlot_of_exact {h0 h1 : Byte} {rest : List Byte} (hl : h1.toNat ≤ 40)
    (hr : rest.length = h1.toNat + flag h0.msb) :
    storedSlot (h0 :: h1 :: rest) = some { bytes := h0 :: h1 :: rest, truncated := false, overlength := false } := by
  have hc : ¬ 40 < h1.toNat := by omega
  simp [storedSlot, storedCount, hc, hr]
  omega

end Sys2Proof.Machine
end

