-- ==== Sys2Proof/Tests/Slice0.lean ====
section
/-! SUPPORT. The model's own tests: the well-formedness checks on ill-formed terms, worked examples of the spec (each
expected value is the spec's, or a hand calculation from its rule), and for each statement with hypotheses a state and
operands that meet them, clause by clause. -/

namespace Sys2Proof.Tests
open Sys2Proof Sys2Proof.Machine

-- One theorem at a time: a hundred kernel evaluations at once would ask for more threads than the check allows.
set_option Elab.async false

/-! ## Small states -/

/-- The reset state with its CLOSED marks sent. -/
def base : State := { State.reset with lines := Vector.replicate 4 Line.initial }

/-- What `exec` answers, as a state; the state itself where it does not answer next. -/
def after (i : Instr) (s : State) : State :=
  match exec i s with
  | .next t => t
  | _ => s

/-- The status of the newest ready answer. -/
def status (s : State) : Option Byte := s.answers.getLast?.bind List.head?

/-- A team that is in play. -/
def playing (score : Int) (streak rank : Nat) : Team :=
  { Team.initial with state := .active, score, streak, rank := some rank }

/-- A seat of a team, PRESENT. -/
def member (t : TeamNo) : Seat := { Seat.initial with presence := .present, countdown := 100, team := some t }

/-- Team 3 with seats 5 and 6, team 4 with seat 40. -/
def crew : State :=
  { (((((base.setTeam 3 (playing 300 2 1)).setTeam 4 (playing 200 0 2)).setSeat 5 (member 3)).setSeat 6
      (member 3)).setSeat 40 (member 4)) with standings := [3, 4] }

/-- A round of a kind in a state, with window 1,000, at a count. -/
def inRound (kind : RoundKind) (state : RoundState) (count : Nat) (s : State) : State :=
  { s with
    round := { state, outcome := none, tieStart := 1,
               body := some { kind, window := 1000, closeInstant := 1000, copy := s.takeCopy } }
    clock := { Clock.initial with
      count, running := true
      windowEnd := if state = .opened then some 1000 else none
      settlingEnd := if state = .settling then some 1128 else none } }

/-- The claim of team 3, CALLED, and that of team 4, WAITING. -/
def called3 : Claim := { team := 3, seat := 5, offset := 10, called := true, overtaken := false }
def waiting4 : Claim := { team := 4, seat := 40, offset := 20, called := false, overtaken := false }
def waiting3 : Claim := { called3 with called := false }

/-- An OPEN buzz round with team 3 CALLED and team 4 WAITING. -/
def duel : State :=
  let s := inRound .buzz .opened 100 crew
  { s with ladder := [called3, waiting4], clock := { s.clock with judgeDeadline := some 100080 } }

/-- The same in DRAINING with the CALLED claim alone, its deadline reached. -/
def lastClaim : State :=
  let s := inRound .buzz .draining 100080 crew
  { s with ladder := [called3], clock := { s.clock with judgeDeadline := some 100080 } }

/-- Seat 6's claim for team 3, WAITING at offset 12. -/
def waiting6 : Claim := { called3 with seat := 6, offset := 12, called := false }

/-- A ladder of WAITING claims with its call compare armed for the head. -/
def queued (ladder : List Claim) (s : State) : State :=
  { s with ladder, clock := { s.clock with call := ladder.head?.map (·.offset + s.copy.callSettle) } }

/-- An OPEN buzz round with seat 6's claim for team 3 alone: a press of seat 5 comes 11 counts in. -/
def replacing : State := queued [waiting6] (inRound .buzz .opened 70 crew)

/-- A buzz round under the early policy LOCKOUT. -/
def strict (kind : RoundKind) : State := inRound kind .opened 70 (crew.setRuleValue Rule.earlyPolicy 1)

/-- An OPEN poll round of 4 choices with a key or without. -/
def poll (key : Option Nat) (state : RoundState) (count : Nat) : State := inRound (.poll 4 key) state count crew

/-- A seat frame with no stopped mark. -/
def frame (seat : SeatNo) (kind : FrameKind) (key age capture : Nat) : SeatFrame :=
  { seat, kind, key, age, capture, stopped := false }

/-- A frame waiting at its line. -/
def waiting (f : SeatFrame) (s : State) : State :=
  s.setLine (lineOf f.seat) { s.line (lineOf f.seat) with queue := [f] }

/-- A HELD line with a counter and a receive queue of a length. -/
def held (n : LineNo) (rehold length : Nat) (s : State) : State :=
  s.setLine n { s.line n with held := true, rehold, queue := List.replicate length (frame (seatAt n 5) .checkIn 0 0 0) }

/-- A line within a character. -/
def receiving (n : LineNo) (assembler : Option PartialFrame) (s : State) : State :=
  s.setLine n { s.line n with receiver := .receiving 77 false, assembler }

/-- Three characters of a CHECK-IN of local address 5. -/
def three : PartialFrame := { characters := [0x85#8, 0#8, 0#8], capture := 70, stopped := false }

/-- Two ready answers. -/
def full : State := { base with answers := [[0#8, 0#8], [0#8, 0#8]] }

/-- A duel with a command at the front of its queue. -/
def busy : State := { duel with pending := [.judge true 0#8 5#8, .powerLoss] }

/-- A waiting KEEPALIVE. -/
def slot : RequestSlot := { bytes := [0x01#8, 0#8], truncated := false, overlength := false }

/-! ## Well-formedness -/

theorem test_wf_refuses_a_long_label : (Instr.enrolTeam false 0#8 0#24 (List.replicate 9 0x41#8)).wf = false := by decide
theorem test_wf_refuses_a_long_new_label : (Instr.renameTeam false 0#8 (List.replicate 9 0x41#8)).wf = false := by decide
theorem test_wf_refuses_a_long_message : (Instr.setMessage true 0#8 (List.replicate 33 0x41#8)).wf = false := by decide
theorem test_wf_refuses_an_empty_framing_refusal : (Instr.requestFramingRefusal []).wf = false := by decide
theorem test_wf_refuses_a_lead_as_the_fourth_character : (Instr.seatFrame 0 0x80#8).wf = false := by decide
theorem test_wf_admits_the_longest_label : (Instr.enrolTeam false 0#8 0#24 (List.replicate 8 0x41#8)).wf = true := by
  decide

/-! ## Wire formats -/

/-- R175: address 0x5C is addressed as 0xB8 for a write and 0xB9 for a read. -/
theorem test_address_bytes : addressByte 0x5C#7 false = 0xB8#8 ∧ addressByte 0x5C#7 true = 0xB9#8 := by decide

/-- R192: JUDGE WRONG of seat 34 is code 0x20, length 2, verdict 1, seat 34. -/
theorem test_judge_bytes : (Request.judge 1#8 34#8).bytes 0x5C#7 false = [0x20#8, 2#8, 1#8, 34#8] := by decide

/-- R191: a score of −2 in three bytes, least significant first. -/
theorem test_signed_field : le24Int (-2) = [0xFE#8, 0xFF#8, 0xFF#8] := by decide

/-- The CRC-8 with polynomial 0x07 and initial value 0 of the single bytes 0x01 and 0x80, by hand division. -/
theorem test_crc : crc8 [0x01#8] = 0x07#8 ∧ crc8 [0x80#8] = 0x89#8 := by decide

/-- R191: a decoder reads a 24-bit field least significant byte first. -/
theorem test_decode_set_score :
    decodeRequest 0x0F [3#8, 0x40#8, 0x42#8, 0x0F#8] = some (.setScore 3#8 1000000#24) := by decide

/-- R193 and R194: the OPEN mark of a poll of 4 is lead 0xA0 and code 0x24; a HOLD frame is 0xC0, 0x5A. -/
theorem test_downstream_codes :
    (DownFrame.mark (.openPoll 4)).leadAndCode = (0xA0#8, 0x24#8) ∧ (DownFrame.flow .hold).leadAndCode = (0xC0#8, 0x5A#8) := by
  decide

/-! ## Worked examples -/

/-- Chapter 10, the four requests: an answer to READ ROUND with its check is 26 bytes. -/
theorem test_read_round_is_26_bytes : (after (.readRound true) base).answers.map List.length = [26] := by decide +kernel

/-- Chapter 10, step 9: a corrupted check byte is answered BAD_CHECK, code 4. -/
theorem test_corrupted_check :
    status (after (.requestFramingRefusal [0xB0#8, 4#8, 17#8, 8#8, 0#8, 0#8, 0#8]) base) = some 4#8 := by decide +kernel

/-- R182: a byte that the console does not acknowledge ends the read early and leaves the answer, clocked on or not; the
acknowledge of the last byte does not matter, and a byte after it is 0xFF. -/
theorem test_read_ends_at_a_byte_not_acknowledged :
    let s : State := { base with answers := [[4#8, 0#8]] }
    let early := after (.consoleRead 0x5C#7 [false, true, true]) s
    let whole := after (.consoleRead 0x5C#7 [true, false, true]) s
    (early.answers, early.bus.shifted) = ([[4#8, 0#8]], [4#8]) ∧
      (whole.answers, whole.bus.shifted) = ([], [4#8, 0#8, 0xFF#8]) := by decide +kernel

/-- R197's note: SET RULE of HOLD_LOWER with 15 under HOLD_UPPER 12 stores 11, CLAMPED, value 11. -/
theorem test_hold_lower_clamps :
    (after (.setRule false 18#8 15#24) base).answers = [[1#8, 3#8, 11#8, 0#8, 0#8]] := by decide +kernel

/-- R197's note: with HOLD_LOWER at 11, HOLD_UPPER 3 is stored and HOLD_LOWER becomes 2. -/
theorem test_hold_upper_brings_hold_lower :
    let s := after (.setRule false 17#8 3#24) (base.setRuleValue Rule.holdLower 11)
    s.rule Rule.holdUpper = 3 ∧ s.rule Rule.holdLower = 2 ∧ status s = some 0#8 := by decide +kernel

/-- Chapter 8, step 1: 99,950 and streak 4 under JUDGE RIGHT give 99,999, streak 5 and last award 200. -/
theorem test_right_at_the_top :
    let x := (after (.judge false 0#8 5#8) (duel.setTeam 3 (playing 99950 4 1))).team 3
    (x.score, x.streak, x.lastAward) = (99999, 5, some 200) := by decide +kernel

/-- Chapter 8: −9,980 judged WRONG gives −9,999 and last award −50. -/
theorem test_wrong_at_the_bottom :
    let x := (after (.judge false 1#8 5#8) (duel.setTeam 3 (playing (-9980) 4 1))).team 3
    (x.score, x.streak, x.lastAward) = (-9999, 0, some (-50)) := by decide +kernel

/-- Chapter 8: the sum 244 over 3 seats is 81; over 4 it is 61; at streak 2 the awards are 121 and 91. -/
theorem test_poll_mean :
    roundedMean 244 3 = 81 ∧ roundedMean 244 4 = 61 ∧ pollAward 81 2 4 = 121 ∧ pollAward 61 2 4 = 91 := by decide

/-- Chapter 8: the points of a right answer at 30,000 of 200,000 with POLL_BASE 100 and POLL_SPEED 50 are 142. -/
theorem test_speed_bonus :
    entryPoints { RuleCopy.zero with pollBase := 100, pollSpeed := 50 } 200000 3
      { choice := 3, offset := 30000, stale := false } = 142 := by decide

/-- R154: scores of 300, 250, 250 and 180 give ranks 1, 2, 2 and 4, teams 5 and 9 in that order. -/
theorem test_ranks :
    let s := updateList ((((base.setTeam 2 (playing 300 0 0)).setTeam 9 (playing 250 0 0)).setTeam 5
      (playing 250 0 0)).setTeam 11 (playing 180 0 0))
    s.standings = [2, 5, 9, 11] ∧ [2, 5, 9, 11].map (fun t => (s.team t).rank) = [some 1, some 2, some 2, some 4] := by
  decide +kernel

/-- Chapter 9: the line of team 11, NOVA, at 280, second after standing fourth. -/
theorem test_board_line :
    standingsLine (base.setTeam 11 { playing 280 0 2 with label := [0x4E#8, 0x4F#8, 0x56#8, 0x41#8] }) [2, 5, 9, 11] 11 1 =
      [0x20#8, 0x32#8, 0x5E#8, 0x4E#8, 0x4F#8, 0x56#8, 0x41#8, 0x20#8, 0x20#8, 0x20#8, 0x20#8, 0x20#8, 0x20#8, 0x32#8,
        0x38#8, 0x30#8] := by decide +kernel

/-- The same line is what the statement about images asks of it, at the second place of the Standings. -/
theorem test_board_line_columns :
    let s := (base.setTeam 11 { playing 280 0 2 with label := [0x4E#8, 0x4F#8, 0x56#8, 0x41#8] })
    showsLine { s with standings := [2, 11] } [2, 5, 9, 11] (List.replicate 16 0#8 ++
      [0x20#8, 0x32#8, 0x5E#8, 0x4E#8, 0x4F#8, 0x56#8, 0x41#8, 0x20#8, 0x20#8, 0x20#8, 0x20#8, 0x20#8, 0x20#8, 0x32#8,
        0x38#8, 0x30#8]) 1 = true := by decide +kernel

/-- R168: −50 stands as "-50" at the end of its five columns, 99,999 and −9,999 fill them, and 0 is one digit. -/
theorem test_score_columns :
    let columns (x : Int) := [4, 3, 2, 1, 0].map (scoreColumn x)
    columns (-50) = [0x20#8, 0x20#8, 0x2D#8, 0x35#8, 0x30#8] ∧ columns 99999 = List.replicate 5 0x39#8 ∧
      columns (-9999) = 0x2D#8 :: List.replicate 4 0x39#8 ∧ columns 0 = List.replicate 4 0x20#8 ++ [0x30#8] := by
  decide +kernel

/-- Chapter 6, step 4: at equal offsets with tie start 14 team 14 stands before team 1, and team 1 before team 3. -/
theorem test_tie_order :
    let c (t : TeamNo) : Claim := { team := t, seat := 0, offset := 20070, called := false, overtaken := false }
    placeClaim 14 (c 14) (placeClaim 14 (c 3) [c 1]) = [c 14, c 1, c 3] := by decide

/-- Chapter 6, step 8: JUDGE naming another seat than the CALLED claim's is STALE, code 9. -/
theorem test_stale_judge : status (after (.judge false 1#8 6#8) duel) = some 9#8 := by decide +kernel

/-- Chapter 6, step 9: after WRONG the next head, its target past, is called at once with a new deadline. -/
theorem test_next_head_is_called :
    let s := after (.judge false 1#8 5#8) duel
    s.ladder = [{ waiting4 with called := true }] ∧ s.clock.judgeDeadline = some 100100 ∧ (s.seat 6).lamp = .locked := by
  decide +kernel

/-- Chapter 7, step 3: a stale copy, captured at 300, replaces the entry of offset 100 under LAST. -/
theorem test_stale_copy_replaces :
    (after (.seatTableTake 0) (waiting (frame 5 .press 2 127 300)
      ((poll none .opened 400).setEntry 5 (some { choice := 1, offset := 100, stale := false })))).entry 5 =
      some { choice := 2, offset := 300, stale := true } := by decide +kernel

/-- Chapter 3, step 2 of the flurry: the frame that brings the count to 12 holds the line. -/
theorem test_hold_at_twelve :
    let l : Line := { Line.initial with queue := List.replicate 11 (frame 32 .checkIn 0 0 0) }
    ((l.join 12 4 (frame 32 .checkIn 0 0 0)).held, (l.join 12 4 (frame 32 .checkIn 0 0 0)).flow) = (true, some .hold) := by
  decide +kernel

/-- Chapter 3, step 7 of the flurry: the fourth counted frame queues HOLD again and clears the counter. -/
theorem test_rehold_at_four :
    let l := Line.join 12 4 (frame 32 .checkIn 0 0 0) { Line.initial with held := true, rehold := 3 }
    (l.flow, l.rehold) = (some .hold, 0) := by decide +kernel

/-- Chapter 3, the lamps on line 0: a new value keeps its entry's place. -/
theorem test_lamp_folds_in_place :
    (Line.queueLamp 7 .called (Line.queueLamp 5 .wait (Line.queueLamp 7 .wait Line.initial))).entries =
      [.lamp 7 .called, .lamp 5 .wait] := by decide

/-- Chapter 11, step 4: SET BOARD A with source DARK gives the working rule 0x2B. -/
theorem test_set_board_packs :
    (after (.setBoard false 0#8 3#8 0#8 1#8 0#8 1#8) base).rule (Rule.boardCfg 0) = 0x2B := by decide +kernel

/-- Chapter 5, the lost console: in SAFE the expiry abandons the round and stops the clock. -/
theorem test_lost_console :
    let s := after .watchdogExpiry { duel.setRuleValue Rule.watchMode 2 with watchdog := .running 1000 }
    (s.round.outcome, s.clock.count, s.clock.running, (s.seat 5).lamp) = (some .abandoned, 100, false, .idle) := by
  decide +kernel

/-- R202: a store abandoned by power loss leaves a bad check, whatever it holds. -/
theorem test_torn_check_is_bad (c x : Byte) : ¬ (if c = x then c ^^^ 1#8 else c) = x := by
  split
  · next h => subst h; intro e; have := congrArg (c ^^^ ·) e; simp at this
  · assumption
theorem test_torn_store_is_bad (values : Vector (BitVec 24) 26) :
    (after .powerLoss { base with storing := some values }).store.good = false :=
  decide_eq_false (test_torn_check_is_bad _ _)

set_option maxRecDepth 100000 in
/-- Power-on and start-up, with both ADDR pins and REVEAL low and a store never written, lead to the reset state. -/
theorem test_start_up_leads_to_reset :
    after .startUpEnd (after (.startUp false false) (after .powerOn { State.reset with phase := .off })) = State.reset := by
  decide +kernel

/-! ## Witnesses: what the statements suppose can be met -/

theorem witness_RangesAreKept :
    (TeamsInRange busy ∧ RulesInRange busy ∧ NoticesBounded busy ∧ AwardsInRange busy) ∧ ∃ t, step busy = .next t :=
  ⟨by decide +kernel, _, rfl⟩
theorem witness_PortStaysBounded : PortBounded busy ∧ ∃ t, step busy = .next t := ⟨by decide +kernel, _, rfl⟩
theorem witness_LinesStayBounded : LinesBounded busy ∧ ∃ t, step busy = .next t := ⟨by decide +kernel, _, rfl⟩
theorem witness_LinesStayInOrder : LinesInOrder busy ∧ ∃ t, step busy = .next t := ⟨by decide +kernel, _, rfl⟩
theorem witness_StandingsStayInOrder : StandingsInOrder busy ∧ ∃ t, step busy = .next t := ⟨by decide +kernel, _, rfl⟩
theorem witness_CountdownsStayInRange : CountdownsInRange busy ∧ ∃ t, step busy = .next t := ⟨by decide +kernel, _, rfl⟩
theorem witness_BindingsStayInOrder : BindingsInOrder busy ∧ ∃ t, step busy = .next t := ⟨by decide +kernel, _, rfl⟩
theorem witness_BoardsStayInOrder : BoardsInOrder busy ∧ ∃ t, step busy = .next t := ⟨by decide +kernel, _, rfl⟩
theorem witness_ContestStaysInOrder : (ContestInOrder busy ∧ OffsetsInOrder busy) ∧ ∃ t, step busy = .next t :=
  ⟨⟨by decide +kernel, by decide +kernel⟩, _, rfl⟩

theorem witness_RequestRowsAreTaken :
    (Instr.enrolTeam true 7#8 5#24 (List.replicate 8 0x41#8)).request? =
      some (true, .enrolTeam 7#8 5#24 (List.replicate 8 0x41#8)) ∧
      (Request.enrolTeam 7#8 5#24 (List.replicate 8 0x41#8)).wf = true ∧ PortReady true base ∧ PortReady false base := by
  decide +kernel

theorem witness_RequestRowsWait :
    (Instr.keepalive true).request? = some (true, .keepalive) ∧ Request.keepalive.wf = true ∧ full.phase = .running ∧
      full.requests.length < 2 ∧ 2 ≤ full.answers.length := by decide +kernel

/-- The clauses: off, another address, both request slots occupied, no answer; a read of both bytes, the last not
acknowledged, with nothing waiting and with a request waiting; one byte short; and with the first byte not acknowledged. -/
theorem witness_TransactionsAreAcknowledgedOrNot :
    ({ base with phase := .off } : State).phase ≠ .running ∧ (0x5D#7 : BitVec 7) ≠ base.targetAddress ∧
      2 ≤ ({ full with requests := [slot, slot] } : State).requests.length ∧ base.answers = [] ∧
      (full.phase = .running ∧ full.answers = [0#8, 0#8] :: [[0#8, 0#8]] ∧ full.requests = []) ∧
      ([0#8, 0#8].length ≤ [true, false].length ∧ ∀ j < [0#8, 0#8].length - 1, [true, false][j]? = some true) ∧
      ([true].length < [0#8, 0#8].length ∧ ∀ j < [true].length, [true][j]? = some true) ∧
      (0 < [0#8, 0#8].length - 1 ∧ [false, true][0]? = some false) ∧
      (let s := { full with requests := [slot] }
       s.inProcess = none ∧ [[0#8, 0#8]].length < 2 ∧ s.requests = slot :: []) := by decide +kernel

/-- The clauses: a stated length of 40 arguments, and an argument length of 41. -/
theorem witness_WritesAreStored :
    full.phase = .running ∧ full.requests.length < 2 ∧ 2 ≤ full.answers.length ∧ (40#8 : Byte).toNat ≤ 40 ∧
      40 < (41#8 : Byte).toNat := by decide +kernel

/-- The clauses: an argument length of 41; a wrong check on KEEPALIVE; code 0 without a check. -/
theorem witness_FramingRefusals :
    (base.phase = .running ∧ base.requests = [] ∧ base.inProcess = none ∧ base.answers.length < 2) ∧
      ¬ ((41#8 : Byte).toNat ≤ 40) ∧ ([0x55#8] : List Byte).getLast? ≠ some (crc8 [0xB8#8, 0x81#8, 0#8]) ∧
      (base.rule Rule.checkRequired ≠ 1 ∧ (decodeRequest 0 []).isSome = false) := by decide +kernel

theorem witness_KeepaliveActsForTheWatchdog :
    PortReady true base ∧ PortReady true { base with consoleLost := true } := by decide +kernel

theorem witness_NoticesAreReadAndCleared : PortReady true duel ∧ NoticesBounded duel ∧ duel.storing = none := by
  decide +kernel

theorem witness_RecordReads : PortReady false crew := by decide +kernel

theorem witness_ContestReads : PortReady true duel ∧ 1 ≤ 16 ∧ 16 ≤ 16 ∧ 1 ≤ 7 ∧ 7 ≤ 7 := by decide +kernel

/-- The clauses in their order; OPEN ROUND with key 7 over 9 choices, and POST KEY of 5 in a round of 4. -/
theorem witness_BadArgumentsAreRefused :
    PortReady true base ∧ ([] : List Byte).length ≤ 8 ∧ 16 ≤ (16#8 : Byte).toNat ∧ 128 ≤ (128#8 : Byte).toNat ∧
      4 ≤ (4#8 : Byte).toNat ∧ 2 < (3#8 : Byte).toNat ∧ 2 ≤ (2#8 : Byte).toNat ∧ 26 ≤ (26#8 : Byte).toNat ∧
      16 < (17#8 : Byte).toNat ∧ 7 < (8#8 : Byte).toNat ∧ 6 < (7#8 : Byte).toNat ∧
      (if (9#8 : Byte).toNat < 2 then 2 else if 6 < (9#8 : Byte).toNat then 6 else (9#8 : Byte).toNat) < (7#8 : Byte).toNat ∧
      (let s := poll none .opened 5
       PortReady true s ∧ RoundBodyInRange s ∧ s.kind = some (.poll 4 none) ∧ s.roundActive = true ∧
         4 < (5#8 : Byte).toNat) := by decide +kernel

/-- A team with 16 members. -/
def packed : State :=
  { crew with seats := Vector.ofFn fun i : SeatNo => if i.val < 16 then member 3 else Seat.initial }

/-- The clauses, in their order; then those of the rules. -/
theorem witness_StateRefusals :
    (PortReady true crew ∧ PortReady true duel ∧ PortReady true packed ∧ (2#8 : Byte).toNat ≤ 2) ∧
      (crew.team 3).state ≠ .free ∧ (crew.team 0).state = .free ∧ (crew.team 0).state ≠ .active ∧
      (crew.team 3).state ≠ .benched ∧ (crew.team 0).state.listed = false ∧ (crew.team 3).state ≠ .retired ∧
      ((packed.team 3).state.listed = true ∧ (packed.seat 40).team ≠ some 3 ∧ 16 ≤ packed.memberCount 3) ∧
      crew.round.state ≠ .opened ∧ crew.roundActive = false ∧ duel.roundActive = true ∧ crew.calledClaim = none ∧
      ((4#8 : Byte).toNat ≤ 4 ∧ duel.kind = some .buzz ∧ (4#8 : Byte) ≠ 0#8 ∧ (4#8 : Byte).toNat ≤ 6) ∧
      (let s := poll (some 2) .opened 5
       PortReady true s ∧ s.kind = some (.poll 4 (some 2)) ∧ 4 ≤ 6) ∧
      (let s : State := { crew with storing := some (snapshot crew.rules) }
       PortReady true s ∧ s.storing.isSome) ∧ duel.storing = none ∧ (12 ≤ (16 : RuleId).val ∧ (16 : RuleId).val ≤ 16) := by
  decide +kernel

/-- A team that is not FREE, and one that is. -/
theorem witness_EnrolListsTheTeam :
    PortReady false crew ∧ (List.replicate 8 0x41#8).length ≤ 8 ∧ (crew.team 3).state ≠ .free ∧
      (crew.team 0).state = .free := by decide +kernel

/-- A FREE team; a listed one whose label differs, and whose label does not. -/
theorem witness_RenameWritesTheLabel :
    PortReady false crew ∧ ([] : List Byte).length ≤ 8 ∧ (crew.team 0).state = .free ∧ (crew.team 3).state ≠ .free ∧
      (crew.team 3).state.listed = true ∧ (crew.team 3).label ≠ [0x41#8] ∧ (crew.team 3).label = [] := by decide +kernel

theorem witness_TeamStatesChange :
    (PortReady true crew ∧ (crew.team 3).state = .active ∧ crew.claimOf 3 = none ∧ TransmittersBusy crew) ∧
      (let s := crew.setTeam 3 { crew.team 3 with state := .benched }
       PortReady true s ∧ (s.team 3).state = .benched) ∧
      (let s := base.setTeam 3 { Team.initial with state := .retired, score := 120 }
       PortReady true s ∧ (s.team 3).state = .retired) := by decide +kernel

/-- A CALLED claim, whose going calls the next head at once, and a WAITING one; a claim alone on the ladder, in DRAINING and
in OPEN; and a CALLED claim before one whose target is ahead. -/
theorem witness_BenchDropsTheClaim :
    (PortReady true duel ∧ (duel.team 3).state = .active ∧ duel.claimOf 3 = some called3 ∧ called3.called = true ∧
      (duel.team 4).state = .active ∧ duel.claimOf 4 = some waiting4 ∧ waiting4.called = false ∧ LadderInOrder duel ∧
      waiting4.offset + duel.copy.callSettle ≤ duel.clock.count) ∧
      (PortReady true lastClaim ∧ lastClaim.claimOf 3 = some called3 ∧ LadderInOrder lastClaim ∧
        lastClaim.round.state = .draining) ∧
      (PortReady true replacing ∧ replacing.claimOf 3 = some waiting6 ∧ LadderInOrder replacing) ∧
      (let s : State := { duel with ladder := [called3, { waiting4 with offset := 99 }] }
       s.claimOf 3 = some called3 ∧ LadderInOrder s ∧ s.clock.count < 99 + s.copy.callSettle) := by
  refine ⟨?_, ?_, ?_, ?_⟩ <;> decide +kernel

/-- A team with the CALLED claim, before another and as the last in DRAINING; one with a WAITING claim, and one with none. -/
theorem witness_RetireClearsTheTeam :
    (PortReady true duel ∧ (duel.team 3).state.listed = true ∧ (duel.seat 5).team = some 3 ∧ LadderInOrder duel ∧
      duel.claimOf 3 = some called3 ∧ duel.claimOf 4 = some waiting4) ∧
    (PortReady true lastClaim ∧ LadderInOrder lastClaim ∧ lastClaim.claimOf 3 = some called3 ∧
      (lastClaim.team 4).state.listed = true ∧ lastClaim.claimOf 4 = none) := by
  refine ⟨?_, ?_⟩ <;> decide +kernel

theorem witness_ConsoleScoresAreClamped : PortReady true crew ∧ (crew.team 3).state ≠ .free := by decide +kernel

/-- The clauses in their order: not listed; the seat's own team; full; unbound; of another team. -/
theorem witness_BindSeatBinds :
    PortReady true crew ∧ (crew.team 0).state.listed = false ∧ (crew.team 3).state.listed = true ∧
      (crew.seat 5).team = some 3 ∧
      (PortReady true packed ∧ (packed.team 3).state.listed = true ∧ (packed.seat 40).team ≠ some 3 ∧
        16 ≤ packed.memberCount 3) ∧
      ((crew.seat 127).team = none ∧ crew.memberCount 3 < 16 ∧ TransmittersBusy crew) ∧
      ((crew.seat 40).team = some 4 ∧ (4 : TeamNo) ≠ 3) := by decide +kernel

/-- A seat with no claim, an unbound one, one with the CALLED claim and one with a WAITING claim. -/
theorem witness_UnbindSeatUnbinds :
    PortReady true duel ∧ (duel.seat 6).team.isSome ∧ (∀ d ∈ duel.ladder, d.seat ≠ 6) ∧ (duel.seat 0).team = none ∧
      ((duel.seat 5).team.isSome ∧ duel.ladder.find? (·.seat = 5) = some called3 ∧ called3.called = true) ∧
      ((duel.seat 40).team.isSome ∧ duel.ladder.find? (·.seat = 40) = some waiting4 ∧ waiting4.called = false) ∧
      LadderInOrder duel := by decide +kernel

/-- A LEAVE, a press in no round, of an unbound seat, of a team not ACTIVE, of an unused key, of a choice in a BUZZ round and
of the buzzer in a POLL round; the line NORMAL, HELD with a count left above HOLD_LOWER, and HELD with one left at it. -/
theorem witness_TakeUpdatesPresence :
    let s := waiting (frame 5 .leave 0 0 0) crew
    let p := waiting (frame 7 .press 7 0 0) duel
    (s.powered = true ∧ TransmittersBusy s ∧ (s.line 0).queue = frame 5 .leave 0 0 0 :: [] ∧
      (frame 5 .leave 0 0 0).kind ≠ .press) ∧
      (s.round.state ≠ .opened ∧ s.round.state ≠ .settling) ∧ (p.seat 7).team = none ∧
      6 < (frame 7 .press 7 0 0).key ∧ (p.kind = some .buzz ∧ (frame 7 .press 7 0 0).key ≠ 0) ∧
      ((poll none .opened 5).kind ≠ some .buzz ∧ (frame 5 .press 0 0 0).key = 0) ∧
      ((duel.setTeam 3 { duel.team 3 with state := .benched }).team 3).state ≠ .active ∧ (s.line 0).held = false ∧
      (let h := held 1 0 (crew.rule Rule.holdLower + 1) crew
       TransmittersBusy h ∧ (h.line 1).held = true ∧ (h.line 1).queue.tail.length ≤ h.rule Rule.holdLower) ∧
      (let h := held 1 0 (crew.rule Rule.holdLower + 2) crew
       (h.line 1).held = true ∧ h.rule Rule.holdLower < (h.line 1).queue.tail.length) := by decide +kernel

/-- A press of team 3 into an OPEN round in which team 4 waits, before any call; and one late in coming, whose call falls due
at once. -/
theorem witness_BuzzPressIsInserted :
    let f := frame 5 .press 0 10 60
    let s := waiting f (queued [{ waiting4 with offset := 55 }] (inRound .buzz .opened 70 crew))
    let r := waiting f (queued [{ waiting4 with offset := 190 }] (inRound .buzz .opened 200 crew))
    (s.powered = true ∧ (s.line 0).queue = f :: [] ∧ f.kind = .press ∧ f.key = 0 ∧ s.round.state = .opened ∧
      s.kind = some .buzz ∧ (s.seat f.seat).team = some 3 ∧ (s.team 3).state = .active ∧ (s.team 3).locked = false ∧
      s.claimOf 3 = none) ∧
    (f.stopped = false ∧ f.age ≠ 127 ∧ f.age ≤ f.capture ∧ f.capture - f.age ≤ s.closeInstant ∧
      f.capture - f.age ≤ s.clock.count) ∧
    (s.clock.count < f.capture - f.age + s.copy.callSettle ∧
      ∀ d ∈ s.ladder, s.clock.count < d.offset + s.copy.callSettle) ∧
    LadderInOrder s ∧
    (LadderInOrder r ∧ (r.line 0).queue = f :: [] ∧ r.claimOf 3 = none ∧
      f.capture - f.age + r.copy.callSettle ≤ r.clock.count) := by
  refine ⟨?_, ?_, ?_, ?_, ?_⟩ <;> decide +kernel

/-- Choice F in a round of 6, an exact press at the close instant, and a stale one. -/
theorem witness_PollPressIsStored :
    let f := frame 5 .press 6 0 1000
    let g := frame 5 .press 6 127 1000
    let s := inRound (.poll 6 none) .settling 1050 crew
    let t := waiting f s
    (t.powered = true ∧ (t.line 0).queue = f :: [] ∧ ((waiting g s).line 0).queue = g :: [] ∧ f.kind = .press ∧
      1 ≤ f.key ∧ f.key ≤ 6 ∧ t.round.state = .settling ∧ t.kind = some (.poll 6 none) ∧
      (t.seat f.seat).team = some 3 ∧ (t.team 3).state = .active) ∧
    ((t.seat f.seat).locked = false ∧ t.entry f.seat = none ∧ f.stopped = false ∧ f.age ≤ f.capture ∧
      f.capture - f.age ≤ t.closeInstant ∧ f.capture - f.age ≤ t.clock.count ∧ g.age = 127 ∧
      g.capture ≤ t.closeInstant ∧ g.capture ≤ t.clock.count) := by decide +kernel

/-- In a BUZZ round: a CALLED claim; a locked team; a stale, an early and a late press, one past the count, and one with the
offset of the team's claim. In a POLL round of 4: a locked seat; choice 5; the policy IGNORE; a close
instant and a count that an offset may pass; and a second answer under FIRST, and under LAST with the offset of the first. -/
theorem witness_RefusedPressesUpdatePresence :
    (let s := waiting (frame 5 .press 0 127 60) duel
     s.powered = true ∧ TransmittersBusy s ∧ (s.line 0).queue = frame 5 .press 0 127 60 :: [] ∧ s.kind = some .buzz ∧
       (s.seat 5).team = some 3 ∧ s.claimOf 3 = some called3 ∧ called3.called = true ∧
       (frame 5 .press 0 127 60).age = 127 ∧
       ((s.setTeam 3 { s.team 3 with locked := true }).team 3).locked = true ∧ s.copy.earlyPolicy = 0 ∧
       60 < (frame 5 .press 0 61 60).age ∧ s.closeInstant < 1001 ∧ s.clock.count < 101) ∧
    (let f := frame 5 .press 0 48 60
     let r := waiting f replacing
     (r.line 0).queue = f :: [] ∧ r.claimOf 3 = some waiting6 ∧ f.age ≤ f.capture ∧
       waiting6.offset ≤ f.capture - f.age) ∧
    (let f := frame 5 .press 5 0 70
     let s := waiting f (poll none .opened 70)
     s.powered = true ∧ TransmittersBusy s ∧ (s.line 0).queue = f :: [] ∧ s.kind = some (.poll 4 none) ∧ 4 < f.key ∧
       ((s.setSeat 5 { member 3 with locked := true }).seat 5).locked = true ∧ s.copy.earlyPolicy = 0 ∧
       s.closeInstant < 1001 ∧ s.clock.count < 71) ∧
    (let s := (poll none .opened 70).setEntry 5 (some { choice := 1, offset := 60, stale := false })
     s.entry 5 = some { choice := 1, offset := 60, stale := false } ∧ s.copy.answerLock ≠ 0 ∧
       (inRound (.poll 4 none) .opened 70 (crew.setRuleValue Rule.answerLock 0)).copy.answerLock = 0) := by
  refine ⟨?_, ?_, ?_, ?_⟩ <;> decide +kernel

/-- The clauses: a teammate's replacing press, with no call due and with one; an early press with no claim and with a
WAITING one, in a BUZZ round; a second answer, under LAST and under FIRST, and an early press in a POLL round. -/
theorem witness_SecondAndEarlyPressesAct :
    (let f := frame 5 .press 0 49 60
     let s := waiting f replacing
     let old := waiting6
     LadderInOrder s ∧ s.powered = true ∧ (s.line 0).queue = f :: [] ∧ f.kind = .press ∧ f.key = 0 ∧
       s.round.state = .opened ∧
       s.kind = some .buzz ∧ (s.seat f.seat).team = some 3 ∧ (s.team 3).state = .active ∧ (s.team 3).locked = false ∧
       f.stopped = false ∧ f.age ≠ 127 ∧ s.claimOf 3 = some old ∧ old.called = false ∧ f.age ≤ f.capture ∧
       f.capture - f.age < old.offset ∧ f.capture - f.age ≤ s.closeInstant ∧ f.capture - f.age ≤ s.clock.count ∧
       s.clock.count < f.capture - f.age + s.copy.callSettle ∧
       ∀ d ∈ s.ladder, s.clock.count < d.offset + s.copy.callSettle) ∧
    (let f := frame 5 .press 0 49 60
     let old : Claim := { waiting6 with offset := 150 }
     let s := waiting f (queued [old] (inRound .buzz .opened 200 crew))
     LadderInOrder s ∧ (s.line 0).queue = f :: [] ∧ s.claimOf 3 = some old ∧ f.capture - f.age < old.offset ∧
       f.capture - f.age + s.copy.callSettle ≤ s.clock.count) ∧
    (let f := frame 5 .press 0 61 60
     let s := waiting f (strict .buzz)
     LadderInOrder s ∧ (s.line 0).queue = f :: [] ∧ s.kind = some .buzz ∧ (s.team 3).locked = false ∧
       s.claimOf 3 = none ∧ f.capture < f.age ∧ f.age ≠ 127 ∧ s.copy.earlyPolicy = 1) ∧
    (let f := frame 5 .press 0 61 60
     let s := waiting f (queued [waiting6] (strict .buzz))
     LadderInOrder s ∧ (s.line 0).queue = f :: [] ∧ s.claimOf 3 = some waiting6 ∧ waiting6.called = false ∧
       f.capture < f.age ∧ s.copy.earlyPolicy = 1 ∧ (s.team 3).state = .active ∧ (s.team 3).locked = false) ∧
    (let f := frame 5 .press 2 0 70
     let s := waiting f ((inRound (.poll 2 none) .opened 70 crew).setEntry 5
       (some { choice := 1, offset := 69, stale := false }))
     s.powered = true ∧ (s.line 0).queue = f :: [] ∧ f.kind = .press ∧ 1 ≤ f.key ∧ f.key ≤ 2 ∧ f.key ≤ 6 ∧
       s.round.state = .opened ∧ s.kind = some (.poll 2 none) ∧ (s.seat f.seat).team = some 3 ∧
       (s.team 3).state = .active ∧ (s.seat f.seat).locked = false ∧ f.stopped = false ∧
       s.entry f.seat = some { choice := 1, offset := 69, stale := false } ∧ f.age ≤ f.capture ∧
       f.capture - f.age ≤ s.closeInstant ∧ f.capture - f.age ≤ s.clock.count ∧ s.copy.answerLock = 1 ∧
       (inRound .buzz .opened 70 (crew.setRuleValue Rule.answerLock 0)).copy.answerLock = 0) ∧
    (let f := frame 5 .press 2 126 125
     let s := waiting f (strict (.poll 2 none))
     (s.line 0).queue = f :: [] ∧ s.kind = some (.poll 2 none) ∧ f.age ≠ 127 ∧ f.capture < f.age ∧
       s.copy.earlyPolicy = 1) := by
  refine ⟨?_, ?_, ?_, ?_, ?_, ?_⟩ <;> decide +kernel

/-- One seat falls SILENT, and no seat does. -/
theorem witness_HousekeepingCountsDown :
    crew.powered = true ∧ (∀ i, ¬ ((crew.seat i).presence = .present ∧ (crew.seat i).countdown ≤ 1)) ∧
      (let x := (crew.setSeat 5 { member 3 with countdown := 1 }).seat 5
       x.presence = .present ∧ x.countdown ≤ 1) := by decide +kernel

theorem witness_ReceiversHuntAndAssemblersTimeOut :
    (base.powered = true ∧ base.lineEnabled 3 = true ∧ (base.line 3).receiver = .hunting) ∧
      (base.setRuleValue (Rule.lineSeats 0) 0).lineEnabled 0 = false ∧
      ((receiving 0 none base).line 0).receiver ≠ .hunting ∧ ((receiving 0 (some three) base).line 0).assembler.isSome ∧
      (base.line 0).assembler = none := by decide +kernel

theorem witness_CharactersBuildFrames :
    let s := receiving 0 (some { three with characters := [0x85#8, 0#8] }) base
    (s.powered = true ∧ s.lineEnabled 0 = true ∧ (s.line 0).receiver = .receiving 77 false ∧
      ((receiving 0 none base).line 0).assembler = none) ∧
      (0x80#8 : Byte).msb = true ∧ (0x7F#8 : Byte).msb = false ∧
      (s.line 0).assembler = some { three with characters := [0x85#8, 0#8] } ∧ [0x85#8, 0#8].length < 3 := by
  decide +kernel

/-- A good frame at an empty and at a full queue, and a bad check; a queue one below HOLD_UPPER; and a HELD line at and before
the re-hold interval. -/
theorem witness_SeatFramesAreJudged :
    let s := receiving 0 (some three) base
    let t := s.setLine 0 { s.line 0 with queue := List.replicate 16 (frame 5 .checkIn 0 0 0) }
    (s.powered = true ∧ TransmittersBusy s ∧ s.lineEnabled 0 = true ∧ (s.line 0).receiver = .receiving 77 false ∧
      (s.line 0).assembler = some { characters := [0x85#8, 0#8, 0#8], capture := 70, stopped := false } ∧
      (crc8 [0x85#8, 0#8, 0#8] &&& 0x7F#8).msb = false ∧ (0x85#8 : Byte).toNat / 32 % 4 ≠ 3 ∧
      (0x85#8 : Byte).toNat % 32 < s.rule (Rule.lineSeats 0)) ∧
    (s.line 0).queue.length < 16 ∧ 16 ≤ (t.line 0).queue.length ∧
    (crc8 [0x85#8, 0#8, 0#8] &&& 0x7F#8) ^^^ 1#8 ≠ crc8 [0x85#8, 0#8, 0#8] &&& 0x7F#8 ∧
    (let u := s.setLine 0 { s.line 0 with queue := List.replicate 11 (frame 5 .checkIn 0 0 0) }
     (u.line 0).held = false ∧ u.rule Rule.holdUpper ≤ (u.line 0).queue.length + 1) ∧
    (let u := receiving 0 (some three) (held 0 3 12 base)
     TransmittersBusy u ∧ (u.line 0).held = true ∧ u.rule Rule.reholdEvery = 1 ∧ 4 ≤ (u.line 0).rehold + 1 ∧
       ((held 0 2 12 base).line 0).rehold + 1 < 4) := by decide +kernel

theorem witness_TransmitterTakesTheNextEntry :
    State.reset.powered = true ∧ (State.reset.line 0).sending.isSome ∧ (State.reset.line 0).flow = none ∧
      (State.reset.line 0).entries = [] ∧ (Line.queueFlow .hold Line.initial).flow = some .hold ∧
      (Line.queueMark .closed Line.initial).entries = .mark .closed :: [] ∧
      (Line.queueLamp 31 .right Line.initial).entries = .lamp 31 .right :: [] := by decide +kernel

/-- A running clock below its window end, at 16,777,214 with nothing armed, and a stopped one; then a window end due, a call
due, and a settling end and a call due at once. -/
theorem witness_ClockRisesAndSaturates :
    (let s := inRound .buzz .opened 999 crew
     s.powered = true ∧ s.clock.count < 16777215 ∧ s.clock.running = true ∧ s.clock.windowEnd = some 1000 ∧
       s.clock.settlingEnd = none ∧ s.clock.call = none ∧ s.clock.judgeDeadline = none) ∧
      (let s := poll none .keywait 16777214
       s.clock.count = 16777214 ∧ s.clock.running = true ∧ s.clock.windowEnd = none ∧ s.clock.settlingEnd = none ∧
         s.clock.call = none ∧ s.clock.judgeDeadline = none) ∧ crew.clock.running = false ∧
      (let s := inRound .buzz .opened 1000 crew
       s.clock.running = true ∧ s.clock.windowEnd = some 1000 ∧ s.clock.call = none ∧ s.clock.judgeDeadline = none) ∧
      (let s := queued [waiting6] (inRound .buzz .opened 100 crew)
       s.clock.running = true ∧ s.clock.windowEnd = some 1000 ∧ s.clock.settlingEnd = none ∧
         s.clock.call.any (· ≤ s.clock.count) = true) ∧
      (let s := queued [{ waiting6 with offset := 1000 }] (inRound .buzz .settling 1128 crew)
       s.clock.settlingEnd = some 1128 ∧ s.clock.call.any (· ≤ s.clock.count) = true) := by decide +kernel

/-- The window end at its target; the settling end of a round with claims, with none, without a key and with one. -/
theorem witness_WindowAndSettlingEnd :
    (let s := inRound .buzz .opened 1000 crew
     s.powered = true ∧ s.clock.running = true ∧ s.round.state = .opened ∧ s.round.body.isSome ∧
       s.clock.windowEnd = some 1000 ∧ 1000 ≤ s.clock.count) ∧
    (let s := inRound .buzz .settling 1128 crew
     s.powered = true ∧ s.clock.running = true ∧ s.round.state = .settling ∧ s.clock.settlingEnd = some 1128 ∧
       1128 ≤ s.clock.count ∧ TransmittersBusy s ∧ s.kind = some .buzz ∧ s.ladder = [] ∧
       ({ s with ladder := [waiting3] } : State).ladder ≠ []) ∧
    (poll none .settling 1128).kind = some (.poll 4 none) ∧ (poll (some 2) .settling 1128).kind = some (.poll 4 (some 2)) ∧
    TransmittersBusy (poll (some 2) .settling 1128) := by decide +kernel

theorem witness_CallAndJudgeDeadline :
    (let r := inRound .buzz .opened 74 crew
     let s : State := { r with ladder := [waiting3, waiting4], clock := { r.clock with call := some 74 } }
     s.powered = true ∧ s.clock.running = true ∧ s.clock.call = some 74 ∧ 74 ≤ s.clock.count ∧
       s.ladder = waiting3 :: [waiting4]) ∧
    (lastClaim.powered = true ∧ lastClaim.clock.running = true ∧ lastClaim.clock.judgeDeadline = some 100080 ∧
      100080 ≤ lastClaim.clock.count ∧ lastClaim.calledClaim = some called3 ∧ LadderInOrder lastClaim) := by
  decide +kernel

/-- Opened with no clamp and key equal to the choices; with the window and the choices clamped. -/
theorem witness_OpenRoundOpens :
    PortReady true crew ∧ crew.roundActive = false ∧ (4#8 : Byte).toNat ≤ 4 ∧ (99#24 : BitVec 24).toNat < 100 ∧
      6 < (7#8 : Byte).toNat ∧ crew.lineEnabled 0 = true ∧ (State.reset.line 0).sending.isSome ∧
      ((crew.line 0).sending = none ∧ (crew.line 0).outboundCount = 0) ∧ LinesBounded crew ∧ LinesBounded State.reset ∧
      (crew.setRuleValue (Rule.lineSeats 3) 0).lineEnabled 3 = false := by decide +kernel

/-- A round in OPEN; one that is active and not in OPEN; no round. -/
theorem witness_CloseAndAbandon :
    PortReady true duel ∧ duel.round.body.isSome ∧ duel.round.state = .opened ∧ duel.roundActive = true ∧
      (PortReady true lastClaim ∧ lastClaim.round.state ≠ .opened ∧ lastClaim.roundActive = true) ∧
      (PortReady true crew ∧ crew.round.state ≠ .opened ∧ crew.roundActive = false) := by decide +kernel

theorem witness_PostKeyStoresOrScores :
    PortReady true (poll none .opened 5) ∧ PortReady true (poll none .keywait 2000) ∧ 1 ≤ 4 ∧ 4 ≤ 4 ∧ 4 ≤ 6 ∧
      (poll none .opened 5).round.body.map (·.kind) = some (.poll 4 none) ∧
      (poll none .settling 5).round.state = .settling ∧ (poll none .keywait 2000).round.state = .keywait := by
  decide +kernel

theorem witness_JudgeRightWins :
    PortReady true duel ∧ duel.calledClaim = some called3 ∧
      (∀ e ∈ duel.ladder, e.called = false → e.seat ≠ called3.seat) ∧ waiting4 ∈ duel.ladder := by decide +kernel

/-- With another claim to come, and the last claim of a DRAINING round. -/
theorem witness_JudgeWrongAndPassGoOn :
    (PortReady true duel ∧ duel.calledClaim = some called3 ∧ duel.round.state ≠ .draining ∧ LadderInOrder duel ∧
      (duel.seat 5).team = some called3.team ∧ (duel.seat 6).team = some called3.team) ∧
      (PortReady true lastClaim ∧ LadderInOrder lastClaim ∧ lastClaim.calledClaim = some called3 ∧
        lastClaim.round.state = .draining ∧
        ∀ e ∈ lastClaim.ladder, e.team = called3.team) := by
  refine ⟨?_, ?_⟩ <;> decide +kernel

/-- Nothing pending, and a repaint pending; then two teams in the Standings and a message of 32 characters. -/
theorem witness_TransferEndLatches :
    State.reset.powered = true ∧
      (State.reset.board 1).inFlight = some { kind := .repaint, image := blankImage, order := [] } ∧
      (State.reset.board 1).pending = none ∧
      (takeStandingsChange 1 State.reset |>.board 1).pending = some .repaint ∧
      (TeamsInRange crew ∧ StandingsInOrder crew ∧ (crew.board 1).message.length = 32) := by decide +kernel

/-- A board that is not in MESSAGE, and one that is, with no transfer in flight and with one. -/
theorem witness_BoardRequestsAct :
    PortReady true base ∧ 3 < 4 ∧ (List.replicate 32 0x41#8).length ≤ 32 ∧
      ((received true (.setMessage 0#8 []) base).board 0).mode ≠ .message ∧
      (let s := base.setBoard 1 { base.board 1 with mode := .message, inFlight := none }
       ((received true (.setMessage 1#8 []) s).board 1).mode = .message ∧
         ((received true (.setMessage 1#8 []) s).board 1).inFlight = none) ∧
      (let s := State.reset.setBoard 1 { State.reset.board 1 with mode := .message }
       ((received true (.setMessage 1#8 []) s).board 1).mode = .message ∧
         ((received true (.setMessage 1#8 []) s).board 1).inFlight.isSome) := by decide +kernel

theorem witness_RevealIsTakenWhenStable :
    (let s : State := { base with reveal := { pin := true, taken := false } }
     s.phase = .running ∧ s.reveal.pin ≠ s.reveal.taken) ∧ base.reveal.pin = base.reveal.taken := by decide +kernel

/-- The five clauses; in the fourth, an enabled line, and a disabled one whose transmitter sends and whose rests; in the last,
a HELD line whose count is at HOLD_LOWER, and a NORMAL one whose count is at HOLD_UPPER. -/
theorem witness_SetRuleWritesAndActs :
    PortReady true base ∧ base.storing = none ∧ (11 : RuleId).val ≤ 11 ∧ 24 ≤ (24 : RuleId).val ∧ TransmittersBusy base ∧
      2 ≤ 2 ∧ 16 ≤ 16 ∧ 2 ≤ 2 ∧ base.lineEnabled 0 = true ∧ base.roundActive = false ∧
      (let s := base.setRuleValue (Rule.lineSeats 0) 0
       PortReady true s ∧ TransmittersBusy s ∧ s.lineEnabled 0 = false ∧ (s.line 0).sending = none) ∧
      (let s := State.reset.setRuleValue (Rule.lineSeats 0) 0
       PortReady true s ∧ TransmittersBusy s ∧ s.lineEnabled 0 = false ∧ (s.line 0).sending.isSome) ∧
      (17 ≤ (17 : RuleId).val ∧ (23 : RuleId).val ≤ 23 ∧ (23 : RuleId) = Rule.boardCfg 1) ∧
      (let s := held 1 0 4 base
       TransmittersBusy s ∧ s.lineEnabled 1 = true ∧ (s.line 1).queue.length ≤ s.rule Rule.holdLower) ∧
      (let s := base.setLine 1 { (held 1 0 12 base).line 1 with held := false }
       TransmittersBusy s ∧ s.rule Rule.holdUpper ≤ (s.line 1).queue.length) := by decide +kernel

set_option maxRecDepth 100000 in
/-- A store in progress; a recall in progress with a bad store and with a good one. -/
theorem witness_StoreAndRecall :
    (PortReady true base ∧ base.storing = none ∧ base.roundActive = false) ∧
      ({ base with storing := some (snapshot base.rules) } : State).storing.isSome ∧
      (let s : State := { base with recalling := true, inProcess := some true }
       s.recalling = true ∧ s.inProcess = some true ∧ s.requests = [] ∧ s.store.good = false) ∧
      (let m : RuleStore := { values := snapshot base.rules, check := storeCheck (snapshot base.rules) }
       m.good = true) := by decide +kernel

/-- A line whose transmitter rests, NORMAL and HELD; one whose transmitter sends; a disabled line; a repaint in flight. -/
theorem witness_ResetSessionClearsTheContest :
    (PortReady true duel ∧ duel.lineEnabled 0 = true ∧ LinesBounded duel ∧ (duel.line 0).sending = none ∧
        (duel.line 0).outboundCount = 0 ∧ (duel.line 0).held = false) ∧
      (State.reset.lineEnabled 0 = true ∧ (State.reset.line 0).sending.isSome) ∧
      (PortReady true State.reset ∧ LinesBounded State.reset ∧ (State.reset.board 1).inFlight.map (·.kind) = some .repaint) ∧
      (let s := held 1 0 12 duel
       LinesBounded s ∧ (s.line 1).held = true ∧ (s.line 1).sending = none) ∧
      (duel.setRuleValue (Rule.lineSeats 3) 0).lineEnabled 3 = false := by
  refine ⟨?_, ?_, ?_, ?_, ?_⟩ <;> decide +kernel

theorem witness_WatchdogExpires :
    let s : State := { duel with watchdog := .running 1000 }
    s.phase = .running ∧ s.watchdog = .running 1000 ∧ s.rule Rule.watchMode ≠ 2 ∧
      (s.setRuleValue Rule.watchMode 2).rule Rule.watchMode = 2 ∧ s.roundActive = true ∧ crew.roundActive = false := by
  decide +kernel

theorem witness_PowerLossAndResetAbandon :
    base.phase ≠ .off ∧ base.storing = none ∧ ({ base with storing := some (snapshot base.rules) } : State).storing.isSome := by
  decide +kernel

set_option maxRecDepth 100000 in
theorem witness_PowerOnAndStartUp :
    ({ base with phase := .off } : State).phase = .off ∧
      (let s : State := { base with phase := .rest }
       s.phase = .rest ∧ s.store.good = false) ∧
      (let m : RuleStore := { values := snapshot base.rules, check := storeCheck (snapshot base.rules) }
       m.good = true) ∧
      (let s : State := after (.startUp true true) { base with phase := .rest }
       s.phase = .startUp ∧ (∀ n, s.line n = Line.initial) ∧
         ∀ b, (s.board b).inFlight = none ∧ (s.board b).pending = none) := by decide +kernel

end Sys2Proof.Tests
end

section
/-! PROOFS. R192 decodes what it encodes, and the framing of R176 to R178 on the bytes of an encoded request. -/

namespace Sys2Proof

variable {r : Request}

/-- The three bytes of a 24-bit field give it back (R191). -/
theorem ofLe24_extract (v : BitVec 24) :
    ofLe24 (v.extractLsb' 0 8) (v.extractLsb' 8 8) (v.extractLsb' 16 8) = v := by
  have upper : v.extractLsb' 16 8 ++ v.extractLsb' 8 8 = v.extractLsb' 8 16 :=
    BitVec.extractLsb'_append_extractLsb'_eq_extractLsb' rfl
  have all : v.extractLsb' 8 16 ++ v.extractLsb' 0 8 = v.extractLsb' 0 24 :=
    BitVec.extractLsb'_append_extractLsb'_eq_extractLsb' rfl
  rw [ofLe24, upper, all, BitVec.extractLsb'_eq_self]

/-- One case per request: its code selects its own argument form, which reads the fields back. -/
theorem decodeRequest_code_arguments (h : r.wf = true) : decodeRequest r.code.toNat r.arguments = some r := by
  cases r <;>
    simp_all [Request.code, Request.arguments, Request.wf, decodeRequest, noArguments, oneByte, twoBytes, byteAndField,
      byteAndText, decodeMask, decodeEnrol, decodeOpen, decodeBoard, le24, ofLe24_extract]

/-- The longest arguments are those of SET MESSAGE, a board and 32 characters. -/
theorem Request.arguments_length_le (h : r.wf = true) : r.arguments.length ≤ 40 := by
  cases r <;> simp_all [Request.arguments, Request.wf, le24] <;> omega

theorem Request.code_toNat_lt (r : Request) : r.code.toNat < 64 := by cases r <;> simp [Request.code]

/-! ## Header byte 0 (R176) -/

/-- Header byte 0: the check flag above the code, as `Request.bytes_eq` says. -/
def Request.header (check : Bool) (r : Request) : Byte := if check then r.code ||| 0x80#8 else r.code

/-- The check byte that closes the bytes of a flagged request, as `Request.bytes_eq` says. -/
def Request.checkBytes (address : BitVec 7) (check : Bool) (r : Request) : List Byte :=
  if check then [crc8 (addressByte address false :: r.body check)] else []

theorem Request.bytes_eq (address : BitVec 7) (check : Bool) (r : Request) :
    r.bytes address check =
      r.header check :: byte r.arguments.length :: (r.arguments ++ r.checkBytes address check) := rfl

theorem Request.checkBytes_length (address : BitVec 7) (check : Bool) (r : Request) :
    (r.checkBytes address check).length = flag check := by cases check <;> rfl

theorem Request.header_msb (check : Bool) (r : Request) : (r.header check).msb = check := by
  have h : r.code.msb = false := by
    rw [BitVec.msb_eq_false_iff_two_mul_lt]; have := r.code_toNat_lt; omega
  cases check
  · exact h
  · rw [Request.header, if_pos rfl, BitVec.msb_or, h]; rfl

theorem Request.header_bit6 (check : Bool) (r : Request) : (r.header check).getLsbD 6 = false := by
  have h : r.code.getLsbD 6 = false := Nat.testBit_lt_two_pow r.code_toNat_lt
  cases check
  · exact h
  · rw [Request.header, if_pos rfl, BitVec.getLsbD_or, h]; rfl

theorem Request.header_mod (check : Bool) (r : Request) : (r.header check).toNat % 64 = r.code.toNat := by
  have h : r.code.toNat % 2 ^ 6 = r.code.toNat := Nat.mod_eq_of_lt r.code_toNat_lt
  cases check
  · exact h
  · change (r.code.toNat ||| 128) % 2 ^ 6 = _
    rw [Nat.or_mod_two_pow, h, show 128 % 2 ^ 6 = 0 from rfl, Nat.or_zero]

theorem Request.length_byte (h : r.wf = true) : (byte r.arguments.length).toNat = r.arguments.length := by
  have := Request.arguments_length_le h
  simp only [byte, BitVec.toNat_ofNat]
  omega

end Sys2Proof

namespace Sys2Proof.Machine

variable {c : Bool} {r : Request} {s : State}

/-! ## The port at a well-formed request (R176, R178) -/

/-- The slot that the bytes of a request fill: stored whole, with neither mark. -/
def wholeSlot (address : BitVec 7) (c : Bool) (r : Request) : RequestSlot :=
  { bytes := r.bytes address c, truncated := false, overlength := false }

theorem storedSlot_bytes (address : BitVec 7) (c : Bool) (h : r.wf = true) :
    storedSlot (r.bytes address c) = some (wholeSlot address c r) := by
  rw [wholeSlot, Request.bytes_eq]
  refine storedSlot_of_exact ?_ ?_
  · rw [Request.length_byte h]; exact Request.arguments_length_le h
  · rw [List.length_append, Request.checkBytes_length, Request.length_byte h, Request.header_msb]

/-- Every byte of a well-formed request is stored. -/
theorem storedCount_bytes (address : BitVec 7) (c : Bool) (h : r.wf = true) :
    storedCount (r.bytes address c) = (r.bytes address c).length := by
  have hl := Request.arguments_length_le h
  rw [Request.bytes_eq]
  simp only [storedCount, Request.length_byte h, Request.header_msb, List.length_append, List.length_cons,
    Request.checkBytes_length, if_neg (Nat.not_lt.mpr hl)]
  omega

theorem byteAcks_bytes (address : BitVec 7) (c : Bool) (h : r.wf = true) :
    byteAcks (r.bytes address c) = List.replicate (r.bytes address c).length true := by
  simp [byteAcks, storedCount_bytes address c h]

theorem wholeSlot_flagged (address : BitVec 7) (c : Bool) (r : Request) : (wholeSlot address c r).flagged = c :=
  Request.header_msb c r

/-- Framing admits the bytes of a well-formed request, when flagged or when no check byte is required (R178). -/
theorem judgeFraming_wholeSlot (address : BitVec 7) {checkRequired : Nat} (h : r.wf = true)
    (hc : c = false → checkRequired ≠ 1) : judgeFraming address checkRequired (wholeSlot address c r) = .ok r := by
  have hcheck : ¬ (if c then r.checkBytes address c ≠ [crc8 (addressByte address false :: r.body c)]
      else checkRequired = 1) := by
    cases c
    · simpa using hc
    · simp [Request.checkBytes]
  have hbody : r.header c :: byte r.arguments.length :: r.arguments = r.body c := rfl
  simp only [judgeFraming, wholeSlot, Request.bytes_eq, Request.length_byte h, Request.header_msb, Request.header_bit6,
    Request.header_mod, decodeRequest_code_arguments h, List.take_left, List.drop_left, hbody, if_neg hcheck]
  simp

/-- A free port takes a request at the very event that fills its slot (R179). -/
theorem takeRequest_of_single (slot : RequestSlot) (hr : s.requests = []) (hp : s.inProcess = none)
    (ha : s.answers.length < 2) : takeRequest { s with requests := [slot] } = handleRequest slot s := by
  have emptied : { s with requests := [] } = s := by rw [← hr]
  rw [takeRequest_of_ready (s := { s with requests := [slot] }) rfl hp ha]
  exact congrArg (handleRequest slot) emptied

/-- A well-formed request sent to a ready port is acknowledged whole and handed to its owning block at once. -/
theorem sendRequest_of_ready (hw : r.wf = true) (hs : PortReady c s) :
    sendRequest c r s = takeValid c r (written c r s) := by
  obtain ⟨hphase, hrequests, hprocess, hanswers, hcheck⟩ := hs
  have hack : s.acksWrite s.targetAddress = true := by simp [State.acksWrite, hphase, hrequests]
  have hframe := judgeFraming_wholeSlot s.targetAddress (c := c) (checkRequired := s.rule Rule.checkRequired) hw
    fun hc => by simp [hcheck hc]
  have hstored : sendRequest c r s =
      takeRequest { written c r s with requests := [wholeSlot s.targetAddress c r] } := by
    rw [sendRequest, consoleWrite_of_stored hack (storedSlot_bytes s.targetAddress c hw), hrequests,
      byteAcks_bytes s.targetAddress c hw]
    rfl
  calc sendRequest c r s
    _ = handleRequest (wholeSlot s.targetAddress c r) (written c r s) :=
        hstored.trans (takeRequest_of_single _ hrequests hprocess hanswers)
    _ = takeValid c r (written c r s) := by
        rw [handleRequest_of_ok (s := written c r s) hframe, wholeSlot_flagged]

/-- Every row of the table that is a request sends that request to the device's address. -/
theorem exec_of_request {i : Instr} (h : i.request? = some (c, r)) (s : State) : exec i s = .next (sendRequest c r s) := by
  cases i <;> cases h <;> rfl

end Sys2Proof.Machine
end

section
/-! PROOFS. What the taking of a valid request leaves as it was, and a request that only reads. -/

namespace Sys2Proof.Machine

variable (c : Bool) (r : Request) (s : State)

/-- The owning block finds the state before, but for the boards, the watchdog, the CONSOLE_LOST condition and the record
of the bus (R190). -/
theorem received_frame :
    (received c r s).outsideBoards = State.outsideBoards { s with
      bus := allAcked (r.bytes s.targetAddress c).length, consoleLost := false
      watchdog := s.armedWatchdog s.watchdog } := requestTaken_frame (written c r s)

@[simp] theorem received_team (t : TeamNo) : (received c r s).team t = s.team t := by
  have e := congrArg (State.team · t) (received_frame c r s); exact e
@[simp] theorem received_seat (i : SeatNo) : (received c r s).seat i = s.seat i := by
  have e := congrArg (State.seat · i) (received_frame c r s); exact e
@[simp] theorem received_line (n : LineNo) : (received c r s).line n = s.line n := by
  have e := congrArg (State.line · n) (received_frame c r s); exact e
@[simp] theorem received_rule (k : RuleId) : (received c r s).rule k = s.rule k := by
  have e := congrArg (State.rule · k) (received_frame c r s); exact e
@[simp] theorem received_fitted (i : SeatNo) : (received c r s).fitted i = s.fitted i := by
  have e := congrArg (State.fitted · i) (received_frame c r s); exact e
@[simp] theorem received_memberCount (t : TeamNo) : (received c r s).memberCount t = s.memberCount t := by
  have e := congrArg (State.memberCount · t) (received_frame c r s); exact e
@[simp] theorem received_presentCount (t : TeamNo) : (received c r s).presentCount t = s.presentCount t := by
  have e := congrArg (State.presentCount · t) (received_frame c r s); exact e
@[simp] theorem received_inProcess : (received c r s).inProcess = s.inProcess := by
  have e := congrArg (State.inProcess ·) (received_frame c r s); exact e

variable {c r s}

/-- Outside a request in process, placing an answer is one more ready answer. -/
theorem placeAnswer_eq_answered (h : s.inProcess = none) (reply : Reply) :
    placeAnswer c reply s = answered c reply.status reply.data s := by
  rw [placeAnswer, ← h]; rfl

/-- A request whose owning block answers DONE and writes nothing adds its answer to what its taking changes. -/
theorem exec_of_read {i : Instr} {data : List Byte} (hi : i.request? = some (c, r)) (hw : r.wf = true)
    (hs : PortReady c s)
    (hserve : serve s.consoleLost r (received c r s) = (received c r s, some (doneWith data))) :
    exec i s = .next (answered c .done data (received c r s)) := by
  have ⟨_, _, hprocess, _⟩ := hs
  rw [exec_of_request hi, sendRequest_of_ready hw hs, takeValid_of_reply (s := written c r s) hserve,
    placeAnswer_eq_answered ((received_inProcess c r s).trans hprocess)]
  rfl

end Sys2Proof.Machine
end

section
/-! PROOFS. The reads of a team, a seat, a line's roll and a line (R22, R39, R40, R62). -/

namespace Sys2Proof.Machine

theorem teamArg_byte (t : TeamNo) : teamArg (byte t.val) = some t := by
  have h : (byte t.val).toNat = t.val := Nat.mod_eq_of_lt (by omega)
  simp [teamArg, h]

theorem seatArg_byte (i : SeatNo) : seatArg (byte i.val) = some i := by
  have h : (byte i.val).toNat = i.val := Nat.mod_eq_of_lt (by omega)
  simp [seatArg, h]

theorem lineArg_byte (n : LineNo) : lineArg (byte n.val) = some n := by
  have h : (byte n.val).toNat = n.val := Nat.mod_eq_of_lt (by omega)
  simp [lineArg, h]

/-! ## The records as the owning block finds them -/

section
variable (c : Bool) (r : Request) (s : State)

@[simp] theorem teamData_received (t : TeamNo) : teamData t (received c r s) = teamData t s := by simp [teamData]

@[simp] theorem seatData_received (i : SeatNo) : seatData i (received c r s) = seatData i s := by simp [seatData]

@[simp] theorem rollEntry_received (i : SeatNo) : rollEntry (received c r s) i = rollEntry s i := by simp [rollEntry]

@[simp] theorem rollData_received (n : LineNo) : rollData n (received c r s) = rollData n s :=
  congrArg (seatsOfLine n).flatMap (funext fun i => rollEntry_received c r s i)

@[simp] theorem lineData_received (n : LineNo) : lineData n (received c r s) = lineData n s := by simp [lineData]

end

/-! ## The four requests -/

variable {c : Bool} {s : State}

theorem exec_readTeam (t : TeamNo) (h : PortReady c s) :
    exec (.readTeam c (byte t.val)) s =
      .next (answered c .done (teamData t s) (received c (.readTeam (byte t.val)) s)) :=
  exec_of_read rfl rfl h (by simp only [serve, serveReadTeam, teamArg_byte, teamData_received])

theorem exec_readSeat (i : SeatNo) (h : PortReady c s) :
    exec (.readSeat c (byte i.val)) s =
      .next (answered c .done (seatData i s) (received c (.readSeat (byte i.val)) s)) :=
  exec_of_read rfl rfl h (by simp only [serve, serveReadSeat, seatArg_byte, seatData_received])

theorem exec_readRoll (n : LineNo) (h : PortReady c s) :
    exec (.readRoll c (byte n.val)) s =
      .next (answered c .done (rollData n s) (received c (.readRoll (byte n.val)) s)) :=
  exec_of_read rfl rfl h (by simp only [serve, serveReadRoll, lineArg_byte, rollData_received])

theorem exec_readLine (n : LineNo) (h : PortReady c s) :
    exec (.readLine c (byte n.val)) s =
      .next (answered c .done (lineData n s) (received c (.readLine (byte n.val)) s)) :=
  exec_of_read rfl rfl h (by simp only [serve, serveReadLine, lineArg_byte, lineData_received])

/-! ## The layouts of R193 -/

/-- A weighted flag of a packed byte. -/
theorem mul_flag (weight : Nat) (b : Bool) : weight * flag b = if b then weight else 0 := by cases b <;> simp [flag]

/-- Settles O22: each answer is the model's data of the record, whose layout is that of R193. -/
theorem recordReads : Obligations.RecordReads := by
  intro c t i n s hs
  refine ⟨?_, ?_, ?_, ?_⟩
  · rw [exec_readTeam t hs]
    simp only [teamData, mul_flag]
  · rw [exec_readSeat i hs]
    simp only [seatData, mul_flag]
    rfl
  · rw [exec_readRoll n hs]
    -- compiled as modules, the statement and `rollEntry` have matchers of their own, which `rfl` identifies
    simp only [rollData, seatsOfLine, List.flatMap_map, rollEntry, mul_flag] <;> rfl
  · rw [exec_readLine n hs]
    rfl

end Sys2Proof.Machine
end

section
/-! PROOFS. No event of the contest looks at the record of the bus: replaced before an event, it is replaced after it. -/

namespace Sys2Proof.Machine

/-- The state with another record of the last transaction, as `written` makes it. -/
def State.withBus (r : BusRecord) (s : State) : State := { s with bus := r }

variable (r : BusRecord) (s t : State)

theorem written_eq_withBus (c : Bool) (q : Request) :
    written c q s = s.withBus (allAcked (q.bytes s.targetAddress c).length) := rfl

/-! ## Reads and named updates under another record of the bus -/

theorem State.withBus_ladder : (s.withBus r).ladder = s.ladder := rfl

theorem State.setNotice_withBus (k : Notice) : (s.withBus r).setNotice k = (s.setNotice k).withBus r := rfl

/-- An update passes over a choice whose two ways it passes over. -/
theorem ite_of_update (f : State → State) {P : Prop} {_ : Decidable P} {x x' y y' : State} (hx : x' = f x)
    (hy : y' = f y) : (if P then x' else y') = f (if P then x else y) := by
  subst hx hy
  exact (apply_ite f P x y).symm

/-! ## Lines -/

theorem State.queueOn_withBus (n : LineNo) (f : Line → Line) :
    (s.withBus r).queueOn n f = (s.queueOn n f).withBus r :=
  ite_of_update (State.withBus r) rfl rfl

theorem lampWrite_withBus (i : SeatNo) (v : Lamp) : lampWrite i v (s.withBus r) = (lampWrite i v s).withBus r :=
  State.queueOn_withBus r (s.setSeat i { s.seat i with lamp := v }) _ _

theorem endEvent_withBus : endEvent (s.withBus r) (t.withBus r) = (endEvent s t).withBus r := by
  unfold endEvent
  exact congrArg kickLines (ite_of_update (State.withBus r) (x := queueMarks .closed t) (y := t) rfl rfl)

/-! ## Boards -/

theorem startImage_withBus (b : BoardNo) (k : ImageKind) :
    startImage b k (s.withBus r) = (startImage b k s).withBus r := by cases k <;> rfl

theorem sendImage_withBus (b : BoardNo) (k : Option ImageKind) :
    sendImage b k (s.withBus r) = (sendImage b k s).withBus r :=
  ite_of_update (State.withBus r) rfl <| match k with
    | none => rfl
    | some k => startImage_withBus r s b k

theorem enterMode_withBus (b : BoardNo) (m : BoardMode) :
    enterMode b m (s.withBus r) = (enterMode b m s).withBus r :=
  sendImage_withBus r (s.setBoard b { s.board b with mode := m }) b m.image

theorem resolveBoard_withBus (b : BoardNo) : resolveBoard b (s.withBus r) = (resolveBoard b s).withBus r :=
  ite_of_update (State.withBus r) rfl (enterMode_withBus r s b (s.resolvedMode b))

theorem resolveBoards_withBus : resolveBoards (s.withBus r) = (resolveBoards s).withBus r := by
  simp only [resolveBoards, resolveBoard_withBus]

theorem requestTaken_withBus : requestTaken (s.withBus r) = (requestTaken s).withBus r := by
  have heard : (if s.consoleLost then resolveBoards { s.withBus r with consoleLost := false } else s.withBus r) =
      (if s.consoleLost then resolveBoards { s with consoleLost := false } else s).withBus r :=
    ite_of_update (State.withBus r) (resolveBoards_withBus r { s with consoleLost := false }) rfl
  exact congrArg (fun x : State => { x with watchdog := s.armedWatchdog s.watchdog }) heard

/-! ## Rounds and the ladder -/

theorem closeRound_withBus (o : RoundOutcome) : closeRound o (s.withBus r) = (closeRound o s).withBus r := by
  rw [closeRound, closeRound, ← resolveBoards_withBus]; rfl

theorem callHead_withBus : callHead (s.withBus r) = (callHead s).withBus r := by
  unfold callHead
  rw [State.withBus_ladder]
  cases s.ladder with
  | nil => rfl
  | cons head rest => dsimp only; rw [← State.setNotice_withBus, ← lampWrite_withBus]; rfl

theorem rearmCall_withBus : rearmCall (s.withBus r) = (rearmCall s).withBus r := by
  unfold rearmCall
  rw [State.withBus_ladder]
  cases s.ladder with
  | nil => rfl
  | cons head rest =>
    exact ite_of_update (State.withBus r) rfl (ite_of_update (State.withBus r) (callHead_withBus r s) rfl)

theorem ladderGoesOn_withBus : ladderGoesOn (s.withBus r) = (ladderGoesOn s).withBus r :=
  ite_of_update (State.withBus r) (closeRound_withBus r s .noWinner) (rearmCall_withBus r s)

theorem dropClaim_withBus (d : Claim) : dropClaim d (s.withBus r) = (dropClaim d s).withBus r :=
  ite_of_update (State.withBus r)
    (by rw [← ladderGoesOn_withBus, ← State.setNotice_withBus, ← lampWrite_withBus]; rfl)
    (by rw [← ladderGoesOn_withBus, ← lampWrite_withBus]; rfl)

theorem dropSeatClaim_withBus (i : SeatNo) : dropSeatClaim i (s.withBus r) = (dropSeatClaim i s).withBus r := by
  unfold dropSeatClaim
  rw [State.withBus_ladder]
  cases s.ladder.find? (·.seat = i) with
  | none => rfl
  | some d => exact dropClaim_withBus r s d

theorem unbindSeat_withBus (i : SeatNo) : unbindSeat i (s.withBus r) = (unbindSeat i s).withBus r := by
  have lit := lampWrite_withBus r (((dropSeatClaim i s).setEntry i none).setSeat i
    { (dropSeatClaim i s).seat i with locked := false }) i .idle
  refine ite_of_update (State.withBus r) rfl ?_
  rw [dropSeatClaim_withBus]
  exact congrArg (fun l : State => l.setSeat i { l.seat i with team := none }) lit

/-- What the owning blocks of two requests find differs in the record of the bus alone. -/
theorem received_withBus (c : Bool) (p q : Request) :
    (received c q s).withBus (received c p s).bus = received c p s := by
  unfold received
  rw [written_eq_withBus, written_eq_withBus, requestTaken_withBus, requestTaken_withBus]; rfl

end Sys2Proof.Machine
end

section
/-! PROOFS. The answer to a request that writes, and the end of an event that closes no round. -/

namespace Sys2Proof.Machine

variable {c : Bool} {q : Request} {s t : State}

/-- A request whose owning block replies adds its answer to the state that the block leaves. -/
theorem exec_of_reply {i : Instr} {reply : Reply} (hi : i.request? = some (c, q)) (hw : q.wf = true)
    (hs : PortReady c s) (hserve : serve s.consoleLost q (received c q s) = (t, some reply))
    (ht : t.inProcess = none) : exec i s = .next (answered c reply.status reply.data t) := by
  rw [exec_of_request hi, sendRequest_of_ready hw hs, takeValid_of_reply (s := written c q s) hserve,
    placeAnswer_eq_answered ht]

/-! ## The end of an event that closes no round (R59, R60) -/

/-- A transmitter that is busy, or has nothing queued, begins no frame. -/
theorem Line.kick_of_busy {l : Line} (h : l.sending = none → l.outboundCount = 0) : l.kick = l := by
  cases hsending : l.sending with
  | some f => simp [Line.kick, hsending]
  | none =>
    obtain ⟨hentries, hflow⟩ : l.entries = [] ∧ l.flow = none := by
      simpa [Line.outboundCount] using h hsending
    simp [Line.kick, hsending, hentries, hflow]

theorem kickLines_of_busy (h : TransmittersBusy s) : kickLines s = s := by
  have hlines : (Vector.ofFn fun n => (s.line n).kick) = s.lines := Vector.ext fun n hn => by
    rw [Vector.getElem_ofFn, Line.kick_of_busy (h ⟨n, hn⟩)]; rfl
  exact congrArg (fun lines => { s with lines }) hlines

/-- An event that leaves the round as it was queues no CLOSED mark. -/
theorem endEvent_of_round (h : t.round = s.round) : endEvent s t = kickLines t := by
  have not_closing : ¬ (s.roundActive = true ∧ t.round.state = .closed) := fun ⟨hactive, hclosed⟩ => by
    rw [State.roundActive, ← h, hclosed] at hactive
    cases hactive
  rw [endEvent, if_neg not_closing]

theorem endEvent_setSeat (i : SeatNo) (x : Seat) : endEvent s (t.setSeat i x) = (endEvent s t).setSeat i x := by
  unfold endEvent
  exact congrArg kickLines (ite_of_update (State.setSeat i x) (x := queueMarks .closed t) (y := t) rfl rfl)

theorem endEvent_seat (i : SeatNo) : (endEvent s t).seat i = t.seat i := by
  have e := congrArg (State.seat · i) (endEvent_frame s t); exact e

theorem endEvent_inProcess : (endEvent s t).inProcess = t.inProcess := by
  have e := congrArg State.inProcess (endEvent_frame s t); exact e

end Sys2Proof.Machine
end

section
/-! PROOFS. BIND SEAT in the order of R35, a rebinding through the next state of UNBIND SEAT (R37). -/

namespace Sys2Proof.Machine

variable {c : Bool} {s t : State}

/-! ## Binding and unbinding -/

theorem unbindSeat_inProcess (i : SeatNo) : (unbindSeat i s).inProcess = s.inProcess := by
  have e := congrArg State.inProcess (unbindSeat_frame s i); exact e

theorem bindSeat_inProcess (i : SeatNo) (x : TeamNo) : (bindSeat i x s).inProcess = s.inProcess := by
  have e := congrArg State.inProcess (bindSeat_frame s i x); exact e

/-- Binding an unbound seat writes its team alone. -/
theorem bindSeat_of_unbound {i : SeatNo} (x : TeamNo) (h : (s.seat i).team = none) :
    bindSeat i x s = s.setSeat i { s.seat i with team := some x } := by
  simp [bindSeat, unbindSeat, h]

/-- The event of a bind is the event of an unbind, after which the seat takes its team. -/
theorem endEvent_bindSeat (i : SeatNo) (x : TeamNo) :
    endEvent t (bindSeat i x s) =
      (endEvent t (unbindSeat i s)).setSeat i { (endEvent t (unbindSeat i s)).seat i with team := some x } := by
  rw [bindSeat, endEvent_setSeat, endEvent_seat]

/-- Binding an unbound seat while no transmitter waits to begin writes its team alone. -/
theorem endEvent_bindSeat_of_unbound {i : SeatNo} (x : TeamNo) (hfree : (s.seat i).team = none)
    (hbusy : TransmittersBusy s) : endEvent s (bindSeat i x s) = s.setSeat i { s.seat i with team := some x } := by
  rw [bindSeat_of_unbound x hfree, endEvent_setSeat, endEvent_of_round rfl, kickLines_of_busy hbusy]

/-! ## The two requests at a ready port -/

/-- The checks of a bind in the order of R35, and its event when it is taken. -/
theorem serveBindSeat_byte (i : SeatNo) (x : TeamNo) (s : State) :
    serveBindSeat (byte i.val) (byte x.val) s =
      if (s.team x).state.listed = false then (s, Status.state.bare)
      else if (s.seat i).team = some x then (s, Status.done.bare)
      else if 16 ≤ s.memberCount x then (s, Status.full.bare)
      else (endEvent s (bindSeat i x s), Status.done.bare) := by
  simp [serveBindSeat, seatArg_byte, teamArg_byte]

/-- The console is answered what the owning block of BIND SEAT replies. -/
theorem exec_bindSeat {i : SeatNo} {x : TeamNo} {status : Status} (hs : PortReady c s)
    (hserve : serveBindSeat (byte i.val) (byte x.val) (received c (.bindSeat (byte i.val) (byte x.val)) s) =
      (t, status.bare))
    (ht : t.inProcess = s.inProcess) :
    exec (.bindSeat c (byte i.val) (byte x.val)) s = .next (answered c status [] t) :=
  have ⟨_, _, hprocess, _⟩ := hs
  exec_of_reply (reply := status.bare) rfl rfl hs (by rw [serve, hserve]) (ht.trans hprocess)

/-- A bind that passes the checks is one event. -/
theorem exec_bindSeat_of_taken {i : SeatNo} {x : TeamNo} (hs : PortReady c s) (hlisted : (s.team x).state.listed = true)
    (hother : (s.seat i).team ≠ some x) (hroom : s.memberCount x < 16) :
    let u := received c (.bindSeat (byte i.val) (byte x.val)) s
    exec (.bindSeat c (byte i.val) (byte x.val)) s = .next (answered c .done [] (endEvent u (bindSeat i x u))) :=
  exec_bindSeat hs (by simp [serveBindSeat_byte, hlisted, hother, hroom])
    (by rw [endEvent_inProcess, bindSeat_inProcess, received_inProcess])

/-- UNBIND SEAT of a bound seat is one event (R37). -/
theorem exec_unbindSeat_of_bound {i : SeatNo} (hs : PortReady c s) (hbound : (s.seat i).team ≠ none) :
    let u := received c (.unbindSeat (byte i.val)) s
    exec (.unbindSeat c (byte i.val)) s = .next (answered c .done [] (endEvent u (unbindSeat i u))) :=
  have ⟨_, _, hprocess, _⟩ := hs
  exec_of_reply (reply := Status.done.bare) rfl rfl hs (by simp [serve, serveUnbindSeat, seatArg_byte, hbound])
    (by rw [endEvent_inProcess, unbindSeat_inProcess, received_inProcess, hprocess])

/-- Settles O32: the checks of R35 in their order; a taken bind of an unbound seat writes its team alone, and a
rebinding is the unbinding of R37, which does not look at the bus, with the new team written after it. -/
theorem bindSeatBinds : Obligations.BindSeatBinds := by
  intro c i x s hs bind u
  refine ⟨fun hunlisted => ?state, fun hlisted => ⟨fun hown => ?own, fun hother hfull => ?full,
    fun hfree hroom hbusy => ?unbound, fun old hold hne hroom => ?rebound⟩⟩
  case state => exact exec_bindSeat hs (by simp [serveBindSeat_byte, hunlisted, u]) (received_inProcess _ _ _)
  case own => exact exec_bindSeat hs (by simp [serveBindSeat_byte, hlisted, hown, u]) (received_inProcess _ _ _)
  case full =>
    exact exec_bindSeat hs (by simp [serveBindSeat_byte, hlisted, hother, hfull, u]) (received_inProcess _ _ _)
  case unbound =>
    have hseat : u.seat i = s.seat i := received_seat _ _ _ i
    have hevent := endEvent_bindSeat_of_unbound (s := u) x (hseat ▸ hfree)
      fun n => received_line c _ s n ▸ hbusy n
    rw [← hseat, ← hevent]
    exact exec_bindSeat_of_taken hs hlisted (by simp [hfree]) hroom
  case rebound =>
    let v := received c (.unbindSeat (byte i.val)) s
    have hv : v.withBus u.bus = u := received_withBus s c _ _
    have hevent : endEvent u (unbindSeat i u) = (endEvent v (unbindSeat i v)).withBus u.bus := by
      rw [← endEvent_withBus, ← unbindSeat_withBus, hv]
    refine ⟨_, exec_unbindSeat_of_bound hs (by simp [hold]), ?_⟩
    refine (exec_bindSeat_of_taken hs hlisted (by simpa [hold] using hne) hroom).trans ?_
    rw [endEvent_bindSeat, hevent]
    rfl

end Sys2Proof.Machine
end

section
/-! PROOFS. The reads of the round, the ladder, the sheet, the Standings, a board and a rule (R96, R121, R135, R157,
R173, R199). -/

namespace Sys2Proof.Machine

theorem boardArg_byte (b : BoardNo) : boardArg (byte b.val) = some b := by
  have h : (byte b.val).toNat = b.val := Nat.mod_eq_of_lt (by omega)
  rw [boardArg, dif_pos (h.trans_lt b.isLt)]
  exact congrArg some (Fin.ext h)

theorem ruleArg_byte (r : RuleId) : ruleArg (byte r.val) = some r := by
  have h : (byte r.val).toNat = r.val := Nat.mod_eq_of_lt (by omega)
  simp [ruleArg, h]

/-- A position or count on the wire is at least 1 exactly as the number is. -/
theorem byte_ne_zero {p : Nat} (hlow : 1 ≤ p) (hhigh : p < 256) : byte p ≠ 0#8 := fun h => by
  have e := congrArg BitVec.toNat h
  rw [byte, BitVec.toNat_ofNat, Nat.mod_eq_of_lt hhigh] at e
  exact Nat.ne_of_gt hlow e

/-! ## The contest as the owning block finds it -/

section
variable (c : Bool) (r : Request) (s : State)

@[simp] theorem received_round : (received c r s).round = s.round := by
  have e := congrArg State.round (received_frame c r s); exact e
@[simp] theorem received_standings : (received c r s).standings = s.standings := by
  have e := congrArg State.standings (received_frame c r s); exact e
@[simp] theorem received_entry (i : SeatNo) : (received c r s).entry i = s.entry i := by
  have e := congrArg (State.entry · i) (received_frame c r s); exact e

@[simp] theorem roundData_received : roundData (received c r s) = roundData s := by
  have e := congrArg roundData (received_frame c r s); exact e

@[simp] theorem ladderData_received (p : Nat) : ladderData p (received c r s) = ladderData p s := by
  have e := congrArg (ladderData p) (received_frame c r s); exact e

@[simp] theorem sheetData_received (n : LineNo) : sheetData n (received c r s) = sheetData n s := by simp [sheetData]

@[simp] theorem standingsData_received (p k : Nat) : standingsData p k (received c r s) = standingsData p k s := by
  have hentry : standingData (received c r s) = standingData s := funext fun t => by simp [standingData]
  simp only [standingsData, received_standings, hentry]

end

/-! ## The six requests -/

variable {c : Bool} {s : State}

theorem exec_readRound (h : PortReady c s) :
    exec (.readRound c) s = .next (answered c .done (roundData s) (received c .readRound s)) :=
  exec_of_read rfl rfl h (by simp only [serve, serveReadRound, roundData_received])

theorem exec_readLadder {p : Nat} (hlow : 1 ≤ p) (hhigh : p ≤ 16) (h : PortReady c s) :
    exec (.readLadder c (byte p)) s =
      .next (answered c .done (ladderData p s) (received c (.readLadder (byte p)) s)) := by
  have hp : (byte p).toNat = p := Nat.mod_eq_of_lt (by omega)
  have hrange : ¬ (byte p = 0#8 ∨ 16 < p) := not_or.mpr ⟨byte_ne_zero hlow (by omega), by omega⟩
  exact exec_of_read rfl rfl h (by simp only [serve, serveReadLadder, hp, if_neg hrange, ladderData_received])

theorem exec_readSheet (n : LineNo) (h : PortReady c s) :
    exec (.readSheet c (byte n.val)) s =
      .next (answered c .done (sheetData n s) (received c (.readSheet (byte n.val)) s)) :=
  exec_of_read rfl rfl h (by simp only [serve, serveReadSheet, lineArg_byte, sheetData_received])

theorem exec_readStandings {p k : Nat} (hlow : 1 ≤ p) (hhigh : p ≤ 16) (hsome : 1 ≤ k) (hmost : k ≤ 7)
    (h : PortReady c s) :
    exec (.readStandings c (byte p) (byte k)) s =
      .next (answered c .done (standingsData p k s) (received c (.readStandings (byte p) (byte k)) s)) := by
  have hp : (byte p).toNat = p := Nat.mod_eq_of_lt (by omega)
  have hk : (byte k).toNat = k := Nat.mod_eq_of_lt (by omega)
  have hrange : ¬ (byte p = 0#8 ∨ 16 < p ∨ byte k = 0#8 ∨ 7 < k) := by
    simp only [not_or]
    exact ⟨byte_ne_zero hlow (by omega), by omega, byte_ne_zero hsome (by omega), by omega⟩
  exact exec_of_read rfl rfl h (by simp only [serve, serveReadStandings, hp, hk, if_neg hrange, standingsData_received])

theorem exec_readBoard (b : BoardNo) (h : PortReady c s) :
    let u := received c (.readBoard (byte b.val)) s
    exec (.readBoard c (byte b.val)) s = .next (answered c .done (boardData b u) u) :=
  exec_of_read rfl rfl h (by simp only [serve, serveReadBoard, boardArg_byte])

theorem exec_readRule (r : RuleId) (h : PortReady c s) :
    exec (.readRule c (byte r.val)) s =
      .next (answered c .done (le24Nat (s.rule r)) (received c (.readRule (byte r.val)) s)) :=
  exec_of_read rfl rfl h (by simp only [serve, serveReadRule, ruleArg_byte, received_rule])

/-! ## The layouts of R193 -/

theorem byte_flag (b : Bool) : byte (flag b) = if b then 1#8 else 0#8 := by cases b <;> rfl

/-- The entries of a list's first `n` places, place by place: an empty place gives nothing. -/
theorem flatMap_take {α β : Type} (f : α → List β) (l : List α) (n : Nat) :
    (l.take n).flatMap f = (List.range n).flatMap fun k => l[k]?.elim [] f := by
  induction n generalizing l with
  | zero => rfl
  | succ n ih =>
    rw [List.range_succ_eq_map, List.flatMap_cons, List.flatMap_map]
    cases l with
    | nil => simp
    | cons a l => simpa using ih l

/-- The first places of a numbered list. -/
theorem take_zipIdx {α : Type} (l : List α) (n start : Nat) : (l.take n).zipIdx start = (l.zipIdx start).take n := by
  refine List.ext_getElem? fun k => ?_
  rw [List.getElem?_zipIdx, List.getElem?_take, List.getElem?_take, List.getElem?_zipIdx, apply_ite (Option.map _)]
  rfl

/-- The claims of READ LADDER, position by position from the start position (R121). -/
theorem ladderData_eq {p : Nat} :
    ladderData p s = byte s.ladder.length ::
      (List.range 8).flatMap fun k => s.ladder[p - 1 + k]?.elim [] fun d => claimData (p + k) d := by
  rw [ladderData, take_zipIdx, flatMap_take]
  congr 2
  funext k
  rw [List.getElem?_zipIdx, List.getElem?_drop]
  cases s.ladder[p - 1 + k]? <;> rfl

/-- The entries of READ STANDINGS, position by position from the first (R157). -/
theorem standingsData_eq {p k : Nat} :
    standingsData p k s = byte s.standings.length ::
      (List.range k).flatMap fun j => s.standings[p - 1 + j]?.elim [] (standingData s) := by
  simp only [standingsData, flatMap_take, List.getElem?_drop]

/-- The code of a packed source is the two low bits of the working rule (R196). -/
theorem unpack_source_code (v : Nat) : (BoardConfig.unpack v).source.code = v % 4 := by
  have h : v % 4 < 4 := Nat.mod_lt _ (by omega)
  change (BoardMode.ofCode (v % 4)).code = v % 4
  interval_cases v % 4 <;> rfl

/-- A one-bit field of a packed configuration (R196). -/
theorem flag_testBit (v k : Nat) : flag (v.testBit k) = v / 2 ^ k % 2 := by
  rw [Nat.testBit_eq_decide_div_mod_eq, flag]
  rcases Nat.mod_two_eq_zero_or_one (v / 2 ^ k) with h | h <;> simp [h]

/-- READ BOARD with the fields of the configuration read off the working rule (R173, R196). -/
theorem boardData_eq (b : BoardNo) (s : State) :
    let v := s.rule (Rule.boardCfg b)
    boardData b s = [byte (v % 4), byte (v / 4 % 2), byte (v / 8 % 2), byte (v / 16 % 2), byte (v / 32 % 2),
      byte (s.board b).mode.code, byte (imageCode ((s.board b).inFlight.map (·.kind))),
      byte (imageCode (s.board b).pending)] := by
  simp only [boardData, State.boardConfig, unpack_source_code]
  simp only [BoardConfig.unpack, flag_testBit, Nat.reducePow]

/-- Settles O23: each answer is the model's data of the record, whose layout is that of R193. -/
theorem contestReads : Obligations.ContestReads := by
  refine ⟨fun c p n s hs hlow hhigh => ⟨?round, ?ladder, ?sheet⟩,
    fun c p k b r s hs hlow hhigh hsome hmost => ⟨?standings, ?board, exec_readRule r hs⟩⟩
  case round =>
    rw [exec_readRound hs]
    simp only [roundData, byte_flag]
    rfl
  case ladder =>
    rw [exec_readLadder hlow hhigh hs, ladderData_eq]
    congr 4
    funext k
    cases s.ladder[p - 1 + k]? with
    | none => rfl
    | some d => simp only [Option.elim, claimData, mul_flag]; rfl
  case sheet =>
    rw [exec_readSheet n hs, sheetData, seatsOfLine, List.flatMap_map]
    congr 3
    funext a
    cases s.entry (seatAt n a) with
    | none => rfl
    | some e => simp only [sheetEntryData, mul_flag]
  case standings =>
    rw [exec_readStandings hlow hhigh hsome hmost hs, standingsData_eq]
    congr 4
    funext j
    cases s.standings[p - 1 + j]? with
    | none => rfl
    | some t => simp only [Option.elim, standingData, mul_flag, decide_eq_true_eq]
  case board => rw [exec_readBoard b hs, boardData_eq, received_rule]

end Sys2Proof.Machine
end

section
/-! PROOFS. A board that resolves its effective mode stands as `BoardResolved` says (R163 to R165). -/

namespace Sys2Proof.Machine

variable {s s' t t' : State} {b : BoardNo}

/-- What a transfer of a board carries rests on the Standings and on that board's message and last-LIVE order. -/
theorem newTransfer_of_boards (h : t'.outsideBoards = t.outsideBoards)
    (hmessage : (t'.board b).message = (t.board b).message) (hlive : (t'.board b).lastLive = (t.board b).lastLive)
    (k : ImageKind) : t'.newTransfer b k = t.newTransfer b k := by
  have himage : liveImage t' = liveImage t := by
    have e := congrArg liveImage h; exact e
  have horder : t'.standings = t.standings := by
    have e := congrArg State.standings h; exact e
  cases k <;> simp only [State.newTransfer, himage, horder, hmessage, hlive]

theorem resolvedMode_of_boards (h : t'.outsideBoards = t.outsideBoards) : t'.resolvedMode b = t.resolvedMode b := by
  have e := congrArg (State.resolvedMode · b) h; exact e

/-! ## `enteredMode` and `BoardResolved` -/

theorem enteredMode_congr (h : ∀ k, t'.newTransfer b k = t.newTransfer b k) (m : BoardMode) :
    enteredMode s t' b m = enteredMode s t b m := by simp only [enteredMode, h]

theorem enteredMode_keeps (s t : State) (b : BoardNo) (m : BoardMode) :
    (enteredMode s t b m).message = (s.board b).message ∧ (enteredMode s t b m).lastLive = (s.board b).lastLive := by
  unfold enteredMode
  split
  · exact ⟨rfl, rfl⟩
  · split <;> exact ⟨rfl, rfl⟩

/-- Resolving leaves a board's message and last-LIVE order as they were. -/
theorem BoardResolved.keeps (h : BoardResolved s t b) :
    (t.board b).message = (s.board b).message ∧ (t.board b).lastLive = (s.board b).lastLive := by
  rw [BoardResolved] at h
  rw [h]
  split
  · exact ⟨rfl, rfl⟩
  · exact enteredMode_keeps _ _ _ _

theorem BoardResolved.congr_before (h : BoardResolved s t b) (hb : s'.board b = s.board b) : BoardResolved s' t b := by
  simpa only [BoardResolved, enteredMode, hb] using h

theorem BoardResolved.congr_after (h : BoardResolved s t b) (ht : t'.outsideBoards = t.outsideBoards)
    (hb : t'.board b = t.board b) : BoardResolved s t' b := by
  have htransfer := newTransfer_of_boards ht (congrArg Board.message hb) (congrArg Board.lastLive hb)
  rw [BoardResolved, hb, resolvedMode_of_boards ht, enteredMode_congr htransfer]
  exact h

/-! ## The drivers -/

/-- A driver enters a mode as R164 says. -/
theorem enterMode_board_same (b : BoardNo) (m : BoardMode) (s : State) :
    (enterMode b m s).board b = enteredMode s s b m := by
  have htransfer := newTransfer_of_boards (t' := s.setBoard b { s.board b with mode := m }) (t := s) (b := b) rfl
    (by simp) (by simp)
  unfold enterMode sendImage enteredMode
  simp only [State.setBoard_board_same]
  split
  · exact State.setBoard_board_same _ _ _
  · cases m.image with
    | some k =>
      dsimp only
      rw [startImage, State.setBoard_board_same, State.setBoard_board_same, htransfer]
    | none => exact State.setBoard_board_same _ _ _

theorem sendImage_board_of_ne {b' : BoardNo} (h : b' ≠ b) (k : Option ImageKind) (s : State) :
    (sendImage b k s).board b' = s.board b' := by
  unfold sendImage
  split
  · exact State.setBoard_board_of_ne _ _ _ _ h
  · split
    · exact State.setBoard_board_of_ne _ _ _ _ h
    · rfl

/-- A driver that resolves leaves the other board as it was. -/
theorem resolveBoard_board_of_ne {b' : BoardNo} (h : b' ≠ b) (s : State) : (resolveBoard b s).board b' = s.board b' := by
  unfold resolveBoard
  split
  · rfl
  · exact (sendImage_board_of_ne h _ _).trans (State.setBoard_board_of_ne _ _ _ _ h)

theorem resolveBoard_resolved (b : BoardNo) (s : State) : BoardResolved s (resolveBoard b s) b := by
  unfold resolveBoard
  split
  · next hsame => exact (if_pos hsame).symm
  · next hdiffers =>
    have hboard := enterMode_board_same b (s.resolvedMode b) s
    have hframe := enterMode_frame s b (s.resolvedMode b)
    obtain ⟨hmessage, hlive⟩ := enteredMode_keeps s s b (s.resolvedMode b)
    rw [← hboard] at hmessage hlive
    rw [BoardResolved, resolvedMode_of_boards hframe, if_neg hdiffers, hboard]
    exact (enteredMode_congr (newTransfer_of_boards hframe hmessage hlive) _).symm

/-- Both drivers resolve, each by its own record (R163). -/
theorem resolveBoards_resolved (b : BoardNo) (s : State) : BoardResolved s (resolveBoards s) b := by
  have hother : (resolveBoard 0 s).board 1 = s.board 1 := resolveBoard_board_of_ne (by decide) s
  match b with
  | 0 => exact (resolveBoard_resolved 0 s).congr_after (resolveBoard_frame _ 1) (resolveBoard_board_of_ne (by decide) _)
  | 1 => exact (resolveBoard_resolved 1 (resolveBoard 0 s)).congr_before hother.symm

/-- The taking of a request keeps a board's message and last-LIVE order (R190). -/
theorem received_board_keeps (c : Bool) (r : Request) (s : State) (b : BoardNo) :
    ((received c r s).board b).message = (s.board b).message ∧
      ((received c r s).board b).lastLive = (s.board b).lastLive := by
  unfold received requestTaken
  dsimp only
  split
  · exact (resolveBoards_resolved b { written c r s with consoleLost := false }).keeps
  · exact ⟨rfl, rfl⟩

end Sys2Proof.Machine
end

section
/-! PROOFS. OPEN ROUND with no round active, step by step (R79). -/

namespace Sys2Proof.Machine

variable {c : Bool} {s : State}

/-! ## The lines (R59 to R61) -/

/-- A mark that joins a queue of at most one entry, a mark, stands there alone (R59). -/
theorem foldEntry_marks {marks : List OutEntry} (m : Mark) (hone : marks.length ≤ 1)
    (hmarks : ∀ e ∈ marks, e.isMark = true) : foldEntry OutEntry.isMark (.mark m) marks = [.mark m] := by
  match marks with
  | [] => rfl
  | [e] => simp [foldEntry, hmarks e (List.mem_singleton_self e)]
  | _ :: _ :: _ => simp at hone

/-- The mark of an opened round is all that a line then sends or, with its transmitter busy, will send. -/
theorem Line.roundOpened_kick {l : Line} (m : Mark) (hmarks : (l.entries.filter (·.isMark)).length ≤ 1)
    (hbusy : l.sending = none → l.outboundCount = 0) :
    (l.roundOpened m).kick =
      if l.sending.isSome then { l with entries := [.mark m] } else { l with sending := some (.mark m) } := by
  have hopened : l.roundOpened m = { l with entries := [.mark m] } := by
    simp only [Line.roundOpened, Line.dropLamps, Line.queueMark,
      foldEntry_marks m hmarks fun e he => (List.mem_filter.mp he).2]
  rw [hopened]
  cases hsending : l.sending with
  | some f => simp [Line.kick]
  | none =>
    obtain ⟨hentries, hflow⟩ : l.entries = [] ∧ l.flow = none := by
      simpa [Line.outboundCount] using hbusy hsending
    simp [Line.kick, hentries, hflow, OutEntry.frame]

/-! ## What the taking of a request changes, put back -/

/-- The state `t` with the boards, the record of the bus, the watchdog and the CONSOLE_LOST condition of `s`: what the
taking of a request writes before its block acts (R176, R190). -/
def State.putBack (t s : State) : State :=
  { t with boards := s.boards, bus := s.bus, watchdog := s.watchdog, consoleLost := s.consoleLost }

theorem State.putBack_of_boards {t t' : State} (h : t.outsideBoards = t'.outsideBoards) :
    t.putBack s = t'.putBack s := by
  have e := congrArg (State.putBack · s) h; exact e

theorem received_putBack (r : Request) : (received c r s).putBack s = s := by
  have e := congrArg (State.putBack · s) (received_frame c r s); exact e

/-! ## The event -/

theorem State.mapLines_mapLines (f g : LineNo → Line → Line) (s : State) :
    (s.mapLines f).mapLines g = s.mapLines fun n l => g n (f n l) := by simp [State.mapLines]

/-- What a taken OPEN ROUND leaves but for the boards, every transmitter kicked (R60, R79). -/
def openedState (kind : RoundKind) (width : Nat) (s : State) : State :=
  ((({ s with
    round := { state := .opened, outcome := none, tieStart := s.round.tieStart + 1,
               body := some { kind, window := width, closeInstant := width, copy := s.takeCopy } }
    clock := { Clock.initial with running := true, windowEnd := some width }
    ladder := []
    sheet := Vector.replicate 128 none } : State).mapTeams
      fun t => { t with locked := false }).mapSeats
      fun x => { x with locked := false, lamp := .idle }).mapLines
      fun n l => (if s.lineEnabled n then l.roundOpened kind.openMark else l).kick

/-- The event of a taken OPEN ROUND. -/
abbrev openEvent (kind : RoundKind) (width : Nat) (s : State) : State := endEvent s (openRound kind width s)

/-- An event that begins with no round active queues no CLOSED mark. -/
theorem endEvent_of_inactive {t : State} (h : s.roundActive = false) : endEvent s t = kickLines t := by
  rw [endEvent, if_neg (by simp [h])]

theorem openedState_putBack (kind : RoundKind) (width : Nat) (s t : State) :
    (openedState kind width t).putBack s = openedState kind width (t.putBack s) := rfl

theorem openEvent_outsideBoards (kind : RoundKind) (width : Nat) (h : s.roundActive = false) :
    (openEvent kind width s).outsideBoards = (openedState kind width s).outsideBoards := by
  rw [openEvent, endEvent_of_inactive h, openedState, ← State.mapLines_mapLines]
  exact congrArg kickLines (resolveBoards_frame _)

/-- The event of a taken OPEN ROUND, but for the boards and what the taking of the request changes. -/
theorem openEvent_received (c : Bool) (kind : RoundKind) (width : Nat) (r : Request) (h : s.roundActive = false) :
    (openEvent kind width (received c r s)).putBack s = openedState kind width s :=
  have hidle : (received c r s).roundActive = false := by rw [State.roundActive, received_round]; exact h
  calc (openEvent kind width (received c r s)).putBack s
    _ = (openedState kind width (received c r s)).putBack s :=
        State.putBack_of_boards (openEvent_outsideBoards kind width hidle)
    _ = openedState kind width ((received c r s).putBack s) := openedState_putBack kind width s _
    _ = openedState kind width s := by rw [received_putBack]

/-- Each board resolves in the event (R79, step 6). -/
theorem openEvent_resolved (kind : RoundKind) (width : Nat) (u : State) (b : BoardNo) :
    BoardResolved u (openEvent kind width u) b := by
  have hopened : BoardResolved u (openRound kind width u) b := resolveBoards_resolved b _
  have hlines := congrArg (BoardResolved u · b) (endEvent_frame u (openRound kind width u))
  exact hlines.mpr hopened

theorem openEvent_inProcess (kind : RoundKind) (width : Nat) (u : State) :
    (openEvent kind width u).inProcess = u.inProcess := by
  have e := congrArg State.inProcess (openRound_frame u kind width)
  exact endEvent_inProcess.trans e

/-! ## The records of the opened round -/

section
variable (kind : RoundKind) (width : Nat)

theorem openedState_team (t : TeamNo) : (openedState kind width s).team t = { s.team t with locked := false } := by
  rw [openedState, State.mapLines_team, State.mapSeats_team, State.mapTeams_team]
  rfl

theorem openedState_seat (i : SeatNo) :
    (openedState kind width s).seat i = { s.seat i with locked := false, lamp := .idle } := by
  rw [openedState, State.mapLines_seat, State.mapSeats_seat, State.mapTeams_seat]
  rfl

theorem openedState_entry (i : SeatNo) : (openedState kind width s).entry i = none :=
  Vector.getElem_replicate i.isLt

/-- An enabled line sends the mark, at once or behind the frame in flight; a disabled one stays (R48, R61). -/
theorem openedState_line (hmarks : ∀ n, (s.line n).Bounded n) (hbusy : TransmittersBusy s) (n : LineNo) :
    (openedState kind width s).line n =
      if s.lineEnabled n then
        if (s.line n).sending.isSome then { s.line n with entries := [.mark kind.openMark] }
        else { s.line n with sending := some (.mark kind.openMark) }
      else s.line n := by
  have ⟨_, _, _, hone, _⟩ := hmarks n
  rw [openedState, State.mapLines_line, State.mapSeats_line, State.mapTeams_line]
  split
  · exact Line.roundOpened_kick kind.openMark hone (hbusy n)
  · exact Line.kick_of_busy (hbusy n)

theorem openedState_contestFrame (hmarks : ∀ n, (s.line n).Bounded n) (hbusy : TransmittersBusy s) :
    ContestFrame s (openedState kind width s) := by
  refine ⟨fun t => ?_, fun i => ?_, fun n => ?_, fun b => ⟨rfl, rfl⟩, rfl⟩
  · rw [openedState_team]
  · rw [openedState_seat]; exact ⟨rfl, rfl⟩
  · rw [openedState_line kind width hmarks hbusy]
    split
    · split <;> rfl
    · rfl

/-- What the taking of a request writes is outside the frame but for the message texts and last-LIVE orders. -/
theorem ContestFrame.of_putBack {t : State} (h : ContestFrame s (t.putBack s))
    (hboards : ∀ b, (t.board b).message = (s.board b).message ∧ (t.board b).lastLive = (s.board b).lastLive) :
    ContestFrame s t :=
  have ⟨hteams, hseats, hlines, _, hrest⟩ := h
  ⟨hteams, hseats, hlines, hboards, hrest⟩

end

/-! ## What the event leaves as it was -/

section
variable (kind : RoundKind) (width : Nat) (r : Request)

theorem openEvent_standings (hidle : s.roundActive = false) :
    (openEvent kind width (received c r s)).standings = s.standings := by
  have e := congrArg State.standings (openEvent_received c kind width r hidle); exact e

theorem openEvent_notices (hidle : s.roundActive = false) :
    (openEvent kind width (received c r s)).notices = s.notices := by
  have e := congrArg State.notices (openEvent_received c kind width r hidle); exact e

/-- The answer joins the answers that stood ready. -/
theorem answered_openEvent_answers (status : Status) (hidle : s.roundActive = false) :
    (answered c status [] (openEvent kind width (received c r s))).answers = (answered c status [] s).answers := by
  have e := congrArg (fun x => (answered c status [] x).answers) (openEvent_received c kind width r hidle); exact e

theorem openEvent_contestFrame (hidle : s.roundActive = false) (hmarks : ∀ n, (s.line n).Bounded n)
    (hbusy : TransmittersBusy s) : ContestFrame s (openEvent kind width (received c r s)) := by
  refine .of_putBack ?_ fun b => ?_
  · rw [openEvent_received c kind width r hidle]
    exact openedState_contestFrame kind width hmarks hbusy
  · obtain ⟨hmessage, hlive⟩ := (openEvent_resolved kind width (received c r s) b).keeps
    obtain ⟨hmessage', hlive'⟩ := received_board_keeps c r s b
    exact ⟨hmessage.trans hmessage', hlive.trans hlive'⟩

end

/-! ## The request -/

/-- A taken OPEN ROUND is one event, whose answer says whether a clamp acted (R78). -/
theorem exec_openRound_of_taken {code choices key : Byte} {window : BitVec 24} {kind : RoundKind} {width : Nat}
    {acted : Bool} (hs : PortReady c s) (hidle : s.roundActive = false)
    (hserve : ∀ x, serveOpenRound code window choices key x = openIfIdle kind width acted x) :
    exec (.openRound c code window choices key) s = .next (answered c (clampedIf acted) []
      (openEvent kind width (received c (.openRound code window choices key) s))) := by
  have ⟨_, _, hprocess, _⟩ := hs
  have hinactive : (received c (.openRound code window choices key) s).roundActive = false := by
    rw [State.roundActive, received_round]; exact hidle
  refine exec_of_reply (reply := (clampedIf acted).bare) rfl rfl hs ?_ ?_
  · simp [serve, hserve, openIfIdle, hinactive]
  · rw [openEvent_inProcess, received_inProcess, hprocess]

/-- Settles O47: the event of a taken OPEN ROUND is `openedState` but for the boards, which resolve, and what the taking
of the request writes; each part of the statement is read off that state. -/
theorem openRoundOpens : Obligations.OpenRoundOpens := by
  intro c window choices key s hs hidle hlines width count opened
  have ⟨hphase, _⟩ := hs
  obtain ⟨hmarks, hpowered⟩ := hlines
  have hbusy : TransmittersBusy s := hpowered (by simp [State.powered, hphase])
  have opens (kind : RoundKind) (i : Instr) (r : Request) (acted : Bool) (clamped : Prop)
      (hclamped : acted = true ↔ clamped)
      (hexec : exec i s = .next (answered c (clampedIf acted) [] (openEvent kind width (received c r s)))) :
      opened i r kind kind.openMark clamped := by
    have hput := openEvent_received c kind width r hidle
    refine ⟨_, hexec, congrArg State.round hput, congrArg State.clock hput,
      fun t => (congrArg (State.team · t) hput).trans (openedState_team kind width t),
      fun x => (congrArg (State.seat · x) hput).trans (openedState_seat kind width x),
      congrArg State.ladder hput,
      fun x => (congrArg (State.entry · x) hput).trans (openedState_entry kind width x),
      fun n => (congrArg (State.line · n) hput).trans (openedState_line kind width hmarks hbusy n),
      openEvent_resolved kind width (received c r s), fun h => ?clamped, fun h => ?done,
      openEvent_standings kind width r hidle, openEvent_notices kind width r hidle,
      openEvent_contestFrame kind width r hidle hmarks hbusy⟩
    case clamped => rw [answered_openEvent_answers kind width r _ hidle, clampedIf, if_pos (hclamped.mpr h)]
    case done => rw [answered_openEvent_answers kind width r _ hidle, clampedIf, if_neg (hclamped.not.mpr h)]
  refine ⟨opens .buzz _ _ _ _ decide_eq_true_iff (exec_openRound_of_taken hs hidle fun _ => rfl), fun hkey => ?poll⟩
  case poll =>
    have hserve (x : State) : serveOpenRound 2#8 window choices key x =
        openIfIdle (.poll count (if key = 0#8 then none else some key.toNat)) width
          (width ≠ window.toNat || count ≠ choices.toNat) x := if_neg (Nat.not_lt.mpr hkey)
    exact opens (.poll count _) _ _ _ _ (by simp) (exec_openRound_of_taken hs hidle hserve)

end Sys2Proof.Machine
end

section
/-! PROOFS. KEEPALIVE, the request that does nothing but be taken (R187, R190). -/

namespace Sys2Proof.Machine

variable (c : Bool) (r : Request) (s : State)

/-- A taking that clears the CONSOLE_LOST condition lets each board resolve under the cleared condition (R163, R190). -/
theorem received_resolved (hlost : s.consoleLost = true) (b : BoardNo) : BoardResolved s (received c r s) b := by
  have hresolved := resolveBoards_resolved b { written c r s with consoleLost := false }
  have htaken : received c r s =
      { resolveBoards { written c r s with consoleLost := false } with
        watchdog := s.armedWatchdog s.watchdog } := by
    rw [received, requestTaken, if_pos (show (written c r s).consoleLost = true from hlost)]
    rfl
  rw [htaken]
  exact hresolved

/-- A taking that finds the condition clear leaves the boards as they were. -/
theorem received_boards_of_heard (hheard : ¬ s.consoleLost = true) : (received c r s).boards = s.boards := by
  rw [received, requestTaken, if_neg (show ¬ (written c r s).consoleLost = true from hheard)]
  rfl

variable {c s}

theorem exec_keepalive (h : PortReady c s) :
    exec (.keepalive c) s = .next (answered c .done [] (received c .keepalive s)) :=
  exec_of_read rfl rfl h rfl

/-- Settles O20: KEEPALIVE leaves the taking of a request and its answer, whose parts are read off `received_frame`. -/
theorem keepaliveActsForTheWatchdog : Obligations.KeepaliveActsForTheWatchdog := by
  intro c s hs
  have hframe := received_frame c .keepalive s
  refine ⟨_, exec_keepalive hs, congrArg State.consoleLost hframe, congrArg State.watchdog hframe, ?answers, ?boards,
    ?rest⟩
  case answers =>
    have e := congrArg (fun x => (answered c .done [] x).answers) hframe; exact e
  case boards =>
    split
    · next hlost => exact received_resolved c .keepalive s hlost
    · next hheard => exact received_boards_of_heard c .keepalive s hheard
  case rest =>
    exact congrArg (fun x : State => { x with answers := s.answers }) (received_putBack (c := c) (s := s) .keepalive)

end Sys2Proof.Machine
end

section
/-! PROOFS. READ NOTICES and CLEAR NOTICES (R185, R186), and ALERT# as the notice word and its mask give it (R184). -/

namespace Sys2Proof.Machine

/-! ## ALERT# -/

/-- Every bit of the notice word below 17 is that of a notice (R193). -/
theorem Notice.exists_bit_eq {n : Nat} (h : n < 17) : ∃ k : Notice, k.bit = n := by
  have hcases : n < 6 ∨ (6 ≤ n ∧ n < 10) ∨ (10 ≤ n ∧ n < 14) ∨ 14 ≤ n := by omega
  rcases hcases with hcontest | ⟨hlow, hhigh⟩ | ⟨hlow, hhigh⟩ | hdevice
  · exact match n, hcontest with
      | 0, _ => ⟨.roundClosed, rfl⟩
      | 1, _ => ⟨.keyWanted, rfl⟩
      | 2, _ => ⟨.claimCalled, rfl⟩
      | 3, _ => ⟨.judgeTimeout, rfl⟩
      | 4, _ => ⟨.claimCancelled, rfl⟩
      | 5, _ => ⟨.seatChange, rfl⟩
  · exact ⟨.lineOverrun ⟨n - 6, by omega⟩, Nat.add_sub_cancel' hlow⟩
  · exact ⟨.lineGarble ⟨n - 10, by omega⟩, Nat.add_sub_cancel' hlow⟩
  · exact match n, hdevice, h with
      | 14, _, _ => ⟨.consoleLost, rfl⟩
      | 15, _, _ => ⟨.rulesDefaulted, rfl⟩
      | 16, _, _ => ⟨.storeDone, rfl⟩
      | _ + 17, _, hpast => absurd hpast (by omega)

/-- A bit that is set in a word below a power of two lies below that power's exponent. -/
theorem lt_of_getLsbD_of_toNat_lt {word : BitVec 24} {n m : Nat} (hset : word.getLsbD n = true)
    (hbound : word.toNat < 2 ^ m) : n < m :=
  (Nat.pow_lt_pow_iff_right (by omega)).mp ((Nat.ge_two_pow_of_testBit hset).trans_lt hbound)

/-- In operation ALERT# is low exactly while a set notice has its mask bit 1, the word holding no bit but the notices'
(R183, R184). -/
theorem State.alertLow_iff {s : State} {word : BitVec 24} {mask : Nat} (hrunning : s.phase = .running)
    (hword : s.notices = word) (hmask : s.rule Rule.noticeMask = mask) (hbounded : word.toNat < 2 ^ 17) :
    s.alertLow = true ↔ ∃ k : Notice, word.getLsbD k.bit = true ∧ mask.testBit k.bit = true := by
  have hmasked (n : Nat) : (word &&& BitVec.ofNat 24 mask).getLsbD n = true ↔
      word.getLsbD n = true ∧ mask.testBit n = true := by
    rw [BitVec.getLsbD_and, BitVec.getLsbD_ofNat, Bool.and_eq_true, Bool.and_eq_true, decide_eq_true_eq]
    exact and_congr_right fun hset => and_iff_right (BitVec.lt_of_getLsbD hset)
  rw [State.alertLow, hword, hmask, decide_eq_true_eq, and_iff_right hrunning]
  constructor
  · intro hsome
    obtain ⟨n, hn⟩ : ∃ n, (word &&& BitVec.ofNat 24 mask).getLsbD n = true := by
      by_contra hnone
      exact hsome (BitVec.eq_of_getLsbD_eq fun n _ => by simpa using fun hn => hnone ⟨n, hn⟩)
    obtain ⟨hset, hlet⟩ := (hmasked n).mp hn
    obtain ⟨k, rfl⟩ := Notice.exists_bit_eq (lt_of_getLsbD_of_toNat_lt hset hbounded)
    exact ⟨k, hset, hlet⟩
  · rintro ⟨k, hset, hlet⟩ hzero
    have hk := (hmasked k.bit).mpr ⟨hset, hlet⟩
    rw [hzero, BitVec.getLsbD_zero] at hk
    exact Bool.false_ne_true hk

/-! ## The word as the owning block finds it -/

section
variable (c : Bool) (r : Request) (s : State)

@[simp] theorem received_phase : (received c r s).phase = s.phase := by
  have e := congrArg State.phase (received_frame c r s); exact e
@[simp] theorem received_notices : (received c r s).notices = s.notices := by
  have e := congrArg State.notices (received_frame c r s); exact e
@[simp] theorem received_storing : (received c r s).storing = s.storing := by
  have e := congrArg State.storing (received_frame c r s); exact e

@[simp] theorem noticesData_received (lost : Bool) : noticesData lost (received c r s) = noticesData lost s := by
  have e := congrArg (noticesData lost) (received_frame c r s); exact e

end

/-! ## The three requests -/

variable {c : Bool} {s : State}

theorem exec_readNotices (h : PortReady c s) :
    exec (.readNotices c) s =
      .next (answered c .done (noticesData s.consoleLost s) (received c .readNotices s)) :=
  exec_of_read rfl rfl h (by simp only [serve, serveReadNotices, noticesData_received])

theorem exec_clearNotices (mask : BitVec 24) (h : PortReady c s) :
    exec (.clearNotices c mask) s = .next (answered c .done (le24 (s.notices &&& ~~~mask))
      { received c (.clearNotices mask) s with notices := s.notices &&& ~~~mask }) := by
  have ⟨_, _, hprocess, _⟩ := h
  exact exec_of_reply (reply := doneWith (le24 (s.notices &&& ~~~mask))) rfl rfl h
    (by simp only [serve, serveClearNotices, received_notices]) ((received_inProcess _ _ _).trans hprocess)

/-- Every value of 24 bits lies in the range of NOTICE_MASK (R196). -/
theorem clampRule_noticeMask (holdUpper : Nat) (mask : BitVec 24) :
    clampRule holdUpper Rule.noticeMask mask.toNat = mask.toNat := by
  have hfits : ¬ 0xFFFFFF < mask.toNat := by have := mask.isLt; omega
  exact if_neg hfits

/-- SET RULE of NOTICE_MASK with no store in progress writes the mask, and its event ends at the lines (R197, R198). -/
theorem exec_setRule_noticeMask (mask : BitVec 24) (h : PortReady c s) (hstoring : s.storing = none) :
    let u := received c (.setRule 24#8 mask) s
    exec (.setRule c 24#8 mask) s = .next (answered c .done (le24Nat mask.toNat)
      (endEvent u (u.setRuleValue Rule.noticeMask mask.toNat))) := by
  intro u
  have ⟨_, _, hprocess, _⟩ := h
  have hid : ruleArg 24#8 = some Rule.noticeMask := ruleArg_byte Rule.noticeMask
  have hfree : u.storing = none := (received_storing _ _ _).trans hstoring
  have hwrite : writeRule Rule.noticeMask mask.toNat u = u.setRuleValue Rule.noticeMask mask.toNat := rfl
  have hheld : heldInRound Rule.noticeMask = false := rfl
  refine exec_of_reply (reply := doneWith (le24Nat mask.toNat)) rfl rfl h ?serve ?process
  case serve =>
    change serve _ _ u = _
    simp [serve, serveSetRule, hid, hfree, hheld, hwrite, clampRule_noticeMask, clampedIf, doneWith]
  case process => rw [endEvent_inProcess, State.setRuleValue_inProcess, received_inProcess, hprocess]

/-! ## What the end of an event at the lines leaves -/

section
variable (s t : State)

theorem endEvent_phase : (endEvent s t).phase = t.phase := by
  have e := congrArg State.phase (endEvent_frame s t); exact e
theorem endEvent_notices : (endEvent s t).notices = t.notices := by
  have e := congrArg State.notices (endEvent_frame s t); exact e
theorem endEvent_rule (r : RuleId) : (endEvent s t).rule r = t.rule r := by
  have e := congrArg (State.rule · r) (endEvent_frame s t); exact e

end

/-- Settles O21: both requests are read off their owning blocks, and ALERT# off the word and mask that they leave. -/
theorem noticesAreReadAndCleared : Obligations.NoticesAreReadAndCleared := by
  intro c mask s hs u v
  have ⟨hrunning, _⟩ := hs
  refine ⟨?read, exec_clearNotices mask hs, fun hbounded => ⟨⟨_, exec_clearNotices mask hs, ?cleared⟩,
    fun hstoring => ⟨_, exec_setRule_noticeMask mask hs hstoring, ?kept, ?masked⟩⟩⟩
  case read =>
    rw [exec_readNotices hs, noticesData]
    simp only [mul_flag]
    rfl
  case cleared =>
    have hstill : (s.notices &&& ~~~mask).toNat < 2 ^ 17 := Nat.and_le_left.trans_lt hbounded
    exact State.alertLow_iff ((received_phase _ _ _).trans hrunning) rfl (received_rule _ _ _ _) hstill
  case kept => exact (endEvent_notices _ _).trans (received_notices _ _ _)
  case masked =>
    exact State.alertLow_iff ((endEvent_phase _ _).trans ((received_phase _ _ _).trans hrunning))
      ((endEvent_notices _ _).trans (received_notices _ _ _))
      ((endEvent_rule _ _ _).trans (State.setRuleValue_rule_same _ _ _)) hbounded

end Sys2Proof.Machine
end

section
/-! PROOFS. R192 decodes nothing but what it encodes; the two tier 1 statements on the step and on reset. -/

namespace Sys2Proof

variable {arguments : List Byte} {r q : Request}

/-! ## The argument forms, each read backwards (R192) -/

/-- The field that three bytes hold is laid out as those bytes (R191). -/
theorem le24_ofLe24 (a b c : Byte) : le24 (ofLe24 a b c) = [a, b, c] := by
  have low : (c ++ b ++ a).extractLsb' 0 8 = a := BitVec.extractLsb'_append_eq_right
  have middle : (c ++ b ++ a).extractLsb' 8 8 = b := by
    ext i hi
    simp only [BitVec.getElem_extractLsb', BitVec.getLsbD_append]
    simp [show ¬ 8 + i < 8 by omega, hi]
  have high : (c ++ b ++ a).extractLsb' 16 8 = c := by
    ext i hi
    simp only [BitVec.getElem_extractLsb', BitVec.getLsbD_append]
    simp [show ¬ 16 + i < 8 by omega, show ¬ 16 + i - 8 < 8 by omega, show 16 + i - 8 - 8 = i by omega,
      BitVec.getLsbD_eq_getElem hi]
  rw [ofLe24, le24, low, middle, high]

theorem noArguments_eq_some : noArguments q arguments = some r ↔ r = q ∧ arguments = [] := by
  cases arguments <;> simp [noArguments, eq_comm]

theorem oneByte_eq_some {f : Byte → Request} : oneByte f arguments = some r ↔ ∃ a, r = f a ∧ arguments = [a] := by
  unfold oneByte
  split
  · next a => simp [eq_comm]
  · next h => simpa using fun a _ => h a

theorem twoBytes_eq_some {f : Byte → Byte → Request} :
    twoBytes f arguments = some r ↔ ∃ a b, r = f a b ∧ arguments = [a, b] := by
  unfold twoBytes
  split
  · next a b => simp [eq_comm]
  · next h => simpa using fun a b _ => h a b

theorem byteAndField_eq_some {f : Byte → BitVec 24 → Request} :
    byteAndField f arguments = some r ↔ ∃ x v, r = f x v ∧ arguments = x :: le24 v := by
  unfold byteAndField
  split
  · next x a b c =>
    constructor
    · rintro ⟨⟩; exact ⟨x, ofLe24 a b c, rfl, by rw [le24_ofLe24]⟩
    · rintro ⟨y, v, rfl, h⟩
      obtain ⟨rfl, rfl, rfl, rfl⟩ : x = y ∧ _ ∧ _ ∧ _ := by simpa [le24] using h
      rw [ofLe24_extract]
  · next h => simpa [le24] using fun x v _ => h x _ _ _

theorem byteAndText_eq_some {limit : Nat} {f : Byte → List Byte → Request} :
    byteAndText limit f arguments = some r ↔ ∃ x text, text.length ≤ limit ∧ r = f x text ∧ arguments = x :: text := by
  cases arguments with
  | nil => simp [byteAndText]
  | cons x text => simp [byteAndText, eq_comm]

theorem decodeMask_eq_some : decodeMask arguments = some r ↔ ∃ v, r = .clearNotices v ∧ arguments = le24 v := by
  unfold decodeMask
  split
  · next a b c =>
    constructor
    · rintro ⟨⟩; exact ⟨ofLe24 a b c, rfl, by rw [le24_ofLe24]⟩
    · rintro ⟨v, rfl, h⟩
      obtain ⟨rfl, rfl, rfl⟩ : _ ∧ _ ∧ _ := by simpa [le24] using h
      rw [ofLe24_extract]
  · next h => simpa [le24] using fun v _ => h _ _ _

theorem decodeEnrol_eq_some : decodeEnrol arguments = some r ↔
    ∃ t v label, label.length ≤ 8 ∧ r = .enrolTeam t v label ∧ arguments = t :: (le24 v ++ label) := by
  unfold decodeEnrol
  split
  · next t a b c label =>
    constructor
    · intro h
      split at h
      · next hlen => cases h; exact ⟨t, ofLe24 a b c, label, hlen, rfl, by rw [le24_ofLe24]; rfl⟩
      · cases h
    · rintro ⟨u, v, text, hlen, rfl, h⟩
      obtain ⟨rfl, rfl, rfl, rfl, rfl⟩ : t = u ∧ _ ∧ _ ∧ _ ∧ label = text := by simpa [le24] using h
      rw [if_pos hlen, ofLe24_extract]
  · next h => simpa [le24] using fun t v label _ _ => h t _ _ _ label

theorem decodeOpen_eq_some : decodeOpen arguments = some r ↔
    ∃ k w ch key, r = .openRound k w ch key ∧ arguments = k :: (le24 w ++ [ch, key]) := by
  unfold decodeOpen
  split
  · next k a b c ch key =>
    constructor
    · rintro ⟨⟩; exact ⟨k, ofLe24 a b c, ch, key, rfl, by rw [le24_ofLe24]; rfl⟩
    · rintro ⟨k', w, ch', key', rfl, h⟩
      obtain ⟨rfl, rfl, rfl, rfl, rfl, rfl⟩ : k = k' ∧ _ ∧ _ ∧ _ ∧ ch = ch' ∧ key = key' := by simpa [le24] using h
      rw [ofLe24_extract]
  · next h => simpa [le24] using fun k w ch key _ => h k _ _ _ ch key

theorem decodeBoard_eq_some : decodeBoard arguments = some r ↔
    ∃ b so se co ho bl, r = .setBoard b so se co ho bl ∧ arguments = [b, so, se, co, ho, bl] := by
  unfold decodeBoard
  split
  · next b so se co ho bl => simp [eq_comm]
  · next h => simpa using fun b so se co ho bl _ => h b so se co ho bl

/-- What a code and its arguments decode to is well formed and encoded as them: one case per code of R192. -/
theorem encoded_of_decodeRequest {code : Nat} (h : decodeRequest code arguments = some r) :
    r.wf = true ∧ code = r.code.toNat ∧ arguments = r.arguments := by
  unfold decodeRequest at h
  split at h <;>
    simp only [noArguments_eq_some, oneByte_eq_some, twoBytes_eq_some, byteAndField_eq_some, byteAndText_eq_some,
      decodeMask_eq_some, decodeEnrol_eq_some, decodeOpen_eq_some, decodeBoard_eq_some, reduceCtorEq] at h <;>
    grind [Request.wf, Request.code, Request.arguments]

/-- Settles O14: the earlier `decodeRequest_code_arguments` one way, and the codes one by one the other way. -/
theorem requestsDecodeAsEncoded : Obligations.RequestsDecodeAsEncoded := by
  intro code arguments r
  refine ⟨encoded_of_decodeRequest, ?_⟩
  rintro ⟨hwf, rfl, rfl⟩
  exact decodeRequest_code_arguments hwf

end Sys2Proof
end

section
/-! PROOFS. The step and the reset state; what the console port does with each transaction (R175 to R182). -/

namespace Sys2Proof.Machine

variable {c : Bool} {r : Request} {s : State}

/-! ## The step and the reset state -/

/-- Settles O1: the queue is not empty, so `step` runs its front command. -/
theorem stepTakesFrontCommand : Obligations.StepTakesFrontCommand := by
  intro i rest s
  exact (rfl : step { s with pending := i :: rest } = exec i { s with pending := rest })

/-- Settles O3: each predicate is evaluated on the one state of reset. -/
theorem resetIsInOrder : Obligations.ResetIsInOrder := by
  refine ⟨?teams, ?awards, ?port, ?lines, ?flow, ?notices, ?standings, ?countdowns, ?boards, ?contest, ?offsets⟩
  case lines =>
    refine ⟨fun n => ?_, fun _ n => ?_⟩
    · have hline : State.reset.line n = { Line.initial with sending := some (.mark .closed) } :=
        Vector.getElem_replicate n.isLt
      rw [hline]
      exact ⟨by decide, by simp [Line.initial], by decide, by decide, by simp [Line.initial], by simp [Line.initial]⟩
    · revert n; decide
  case boards =>
    intro b
    match b with
    | 0 => decide +kernel
    | 1 => decide +kernel
  all_goals decide +kernel

/-- Settles O4: each record is evaluated on the one state of reset. -/
theorem resetLeavesPowerOnValues : Obligations.ResetLeavesPowerOnValues := by
  refine ⟨by decide +kernel, by decide +kernel, rfl, rfl, rfl, by decide +kernel, rfl, by decide +kernel, rfl, rfl, rfl,
    rfl, rfl, fun k => ?notices, by decide +kernel⟩
  cases k with
  | lineOverrun n => revert n; decide
  | lineGarble n => revert n; decide
  | _ => decide

/-! ## Request rows -/

/-- Settles O15: a request row sends its request, and a ready port takes it at once. -/
theorem requestRowsAreTaken : Obligations.RequestRowsAreTaken := by
  intro i c r s hi hw hs
  rw [exec_of_request hi, sendRequest_of_ready hw hs]

/-- A write that fills a slot while the port can take no request waits there (R176, R179). -/
theorem consoleWrite_of_waiting {bytes : List Byte} {slot : RequestSlot} (hphase : s.phase = .running)
    (hroom : s.requests.length < 2) (hbusy : s.inProcess.isSome ∨ 2 ≤ s.answers.length)
    (hslot : storedSlot bytes = some slot) :
    consoleWrite s.targetAddress bytes s = { s with
      bus := { acknowledged := true :: byteAcks bytes, shifted := [] }, requests := s.requests ++ [slot] } := by
  have hack : s.acksWrite s.targetAddress = true := by simp [State.acksWrite, hphase, hroom]
  rw [consoleWrite_of_stored hack hslot]
  exact takeRequest_of_busy hbusy

/-- Settles O16: the slot of a well-formed request is whole, and it waits. -/
theorem requestRowsWait : Obligations.RequestRowsWait := by
  intro i c r s hi hw hphase hroom hbusy
  rw [exec_of_request hi, sendRequest, consoleWrite_of_waiting hphase hroom hbusy (storedSlot_bytes _ c hw),
    byteAcks_bytes _ c hw]
  rfl

/-! ## Reads (R181, R182) -/

/-- The bytes of a whole read: the answer, then 0xFF for each byte clocked after its last. -/
theorem append_replicate_eq_range {answer : List Byte} {n : Nat} (h : answer.length ≤ n) :
    answer ++ List.replicate (n - answer.length) 0xFF#8 = (List.range n).map fun k => (answer[k]?).getD 0xFF#8 := by
  refine List.ext_getElem (by simp [h]) fun k hk _ => ?_
  simp only [List.getElem_map, List.getElem_range]
  rw [List.getElem_append]
  split
  · next hlt => simp [List.getElem?_eq_getElem hlt]
  · next hge => simp [List.getElem?_eq_none (Nat.le_of_not_lt hge)]

/-- A read carries every byte exactly when all were clocked and all before the last acknowledged. -/
theorem le_carriedCount_of_complete {acks : List Bool} {length : Nat} (hclocked : length ≤ acks.length)
    (hacked : ∀ j < length - 1, acks[j]? = some true) : length ≤ carriedCount acks := by
  cases length with
  | zero => exact Nat.zero_le _
  | succ k => exact lt_carriedCount.mpr ⟨hclocked, hacked⟩

/-- A read whose every byte was acknowledged carries as many as were clocked. -/
theorem carriedCount_of_acked {acks : List Bool} (h : ∀ j < acks.length, acks[j]? = some true) :
    carriedCount acks = acks.length := by
  have hle : acks.length ≤ carriedCount acks := le_carriedCount_of_complete le_rfl fun j hj => h j (by omega)
  have hge : ¬ acks.length < carriedCount acks := fun hlt => absurd (lt_carriedCount.mp hlt).1 (by omega)
  omega

/-- A byte that is not acknowledged is the last carried. -/
theorem carriedCount_of_refused {acks : List Bool} {k : Nat} (hbefore : ∀ j < k, acks[j]? = some true)
    (hrefused : acks[k]? = some false) : carriedCount acks = k + 1 := by
  obtain ⟨hlt, -⟩ := List.getElem?_eq_some_iff.mp hrefused
  have hle : k < carriedCount acks := lt_carriedCount.mpr ⟨hlt, hbefore⟩
  have hge : ¬ k + 1 < carriedCount acks := fun h => by
    have := (lt_carriedCount.mp h).2 k (by omega)
    simp [hrefused] at this
  omega

/-- Settles O17: the addresses by the conditions of their acknowledge, the reads by how many bytes they carry. -/
theorem transactionsAreAcknowledgedOrNot : Obligations.TransactionsAreAcknowledgedOrNot := by
  refine ⟨fun address bytes acks s => ⟨fun h => ?write, fun h => ?read⟩, ?carried⟩
  case write =>
    have hack : s.acksWrite address = false := by
      simp only [State.acksWrite, decide_eq_false_iff_not]
      rintro ⟨hphase, haddress, hroom⟩
      exact h.elim (absurd hphase) (Or.elim · (absurd haddress) (absurd hroom ∘ Nat.not_lt.mpr))
    exact congrArg Host.Outcome.next (consoleWrite_of_refused bytes hack)
  case read =>
    have hack : s.acksRead address = false := by
      simp only [State.acksRead, decide_eq_false_iff_not]; tauto
    exact congrArg Host.Outcome.next (consoleRead_of_refused acks hack)
  case carried =>
    intro acks answer rest s hphase hanswers read carried all acked complete
    have hack : s.acksRead s.targetAddress = true := by simp [State.acksRead, hphase, hanswers]
    have hall (hclocked : answer.length ≤ acks.length) (hacked : acked (answer.length - 1)) :
        read = .next (takeRequest { all with answers := rest }) := by
      have hwhole := consoleRead_of_complete hack hanswers (le_carriedCount_of_complete hclocked hacked)
      rw [append_replicate_eq_range hclocked] at hwhole
      exact congrArg Host.Outcome.next hwhole
    have hshort {k : Nat} (hcount : carriedCount acks = k) (hk : k < answer.length) :
        read = .next (carried (answer.take k)) :=
      congrArg Host.Outcome.next (hcount ▸ consoleRead_of_short hack hanswers (hcount ▸ hk))
    refine ⟨fun ⟨hclocked, hacked⟩ hidle => ?_, fun ⟨hclocked, hacked⟩ hprocess hroom slot later hslot => ?_,
      fun hlt hacked => hshort (carriedCount_of_acked hacked) hlt,
      fun k hk hacked hrefused => hshort (carriedCount_of_refused hacked hrefused) (by omega)⟩
    · rw [hall hclocked hacked]
      rcases hidle with hempty | hbusy
      · rw [takeRequest_of_empty (by exact hempty)]
      · rw [takeRequest_of_busy (.inl (by exact hbusy))]
    · rw [hall hclocked hacked, takeRequest_of_ready (slot := slot) (rest := later) (by exact hslot) (by exact hprocess)
        (by exact hroom)]

/-! ## Writes (R176) -/

/-- The acknowledge of the bytes behind the two headers: those below the stated length. -/
theorem replicate_eq_range_lt (n stated : Nat) :
    List.replicate (min n stated) true ++ List.replicate (n - min n stated) false =
      (List.range n).map fun k => decide (k < stated) := by
  refine List.ext_getElem (by simp) fun k hk _ => ?_
  rw [List.getElem_append]
  split
  · next h => simp at h ⊢; omega
  · next h => simp at h hk ⊢; omega

/-- Settles O18: the slot and the acknowledges of a write by its length, and its waiting. -/
theorem writesAreStored : Obligations.WritesAreStored := by
  intro h0 h1 rest s hphase hroom hbusy write stated
  have hstated : stated = h1.toNat + flag h0.msb := rfl
  have waits {bytes : List Byte} {slot : RequestSlot} (hslot : storedSlot bytes = some slot) : write bytes = .next
      { s with bus := { acknowledged := true :: byteAcks bytes, shifted := [] }, requests := s.requests ++ [slot] } :=
    congrArg Host.Outcome.next (consoleWrite_of_waiting hphase hroom hbusy hslot)
  refine ⟨?none, waits rfl, fun hlong => ?long, fun hfits => ?fits⟩
  case none =>
    have hack : s.acksWrite s.targetAddress = true := by simp [State.acksWrite, hphase, hroom]
    simp [write, exec, execConsoleWrite, consoleWrite, hack, storedSlot, byteAcks, storedCount]
  case long =>
    refine (waits (slot := { bytes := [h0, h1], truncated := true, overlength := true }) ?_).trans ?_
    · simp [storedSlot, storedCount, hlong]
    · have hacks : byteAcks (h0 :: h1 :: rest) = [true, true] ++ List.replicate rest.length false := by
        simp [byteAcks, storedCount, hlong, List.replicate]
      rw [hacks]; rfl
  case fits =>
    have hshort : ¬ 40 < h1.toNat := Nat.not_lt.mpr hfits
    refine (waits (slot := { bytes := h0 :: h1 :: rest.take stated, truncated := rest.length < stated,
                             overlength := stated < rest.length }) ?_).trans ?_
    · have htake : (h0 :: h1 :: rest).take (2 + min rest.length stated) = h0 :: h1 :: rest.take stated := by
        rw [Nat.add_comm, List.take_succ_cons, List.take_succ_cons, Nat.min_comm, ← List.take_eq_take_min]
      simp [storedSlot, storedCount, hshort, ← hstated, htake]
    · have hacks : byteAcks (h0 :: h1 :: rest) =
          [true, true] ++ (List.range rest.length).map fun k => decide (k < stated) := by
        have hcount : storedCount (h0 :: h1 :: rest) = min rest.length stated + 2 := by
          simp [storedCount, hshort, hstated]; omega
        rw [← replicate_eq_range_lt, byteAcks, hcount]
        simp [List.replicate_succ]
      rw [hacks]; rfl

/-! ## Framing (R178) -/

/-- A write that the port takes at once and framing refuses adds the refusal's answer and changes the record of the
bus. -/
theorem consoleWrite_of_framing_refused {bytes : List Byte} {slot : RequestSlot} {status : Status}
    (hphase : s.phase = .running) (hrequests : s.requests = []) (hprocess : s.inProcess = none)
    (hanswers : s.answers.length < 2) (hslot : storedSlot bytes = some slot) (hflag : slot.flagged = c)
    (hjudged : judgeFraming s.targetAddress (s.rule Rule.checkRequired) slot = .error status) :
    consoleWrite s.targetAddress bytes s = { answered c status [] s with
      bus := { acknowledged := true :: byteAcks bytes, shifted := [] } } := by
  have hack : s.acksWrite s.targetAddress = true := by simp [State.acksWrite, hphase, hrequests]
  let carried : State := { s with bus := { acknowledged := true :: byteAcks bytes, shifted := [] } }
  have htaken : takeRequest { carried with requests := [slot] } = handleRequest slot carried :=
    takeRequest_of_single (s := carried) slot hrequests hprocess hanswers
  rw [consoleWrite_of_stored hack hslot, hrequests]
  refine htaken.trans ?_
  rw [handleRequest_of_error (s := carried) hjudged, placeAnswer_eq_answered (s := carried) hprocess, hflag]
  rfl

/-- A list of one byte more than `n` ends in the byte behind its first `n`. -/
theorem drop_eq_singleton_iff {rest : List Byte} {n : Nat} (h : rest.length = n + 1) (due : Byte) :
    rest.drop n = [due] ↔ rest.getLast? = some due := by
  have hlen : (rest.drop n).length = 1 := by simp [h]
  obtain ⟨x, hx⟩ := List.length_eq_one_iff.mp hlen
  have hlast : rest.getLast? = some x := by
    rw [← List.take_append_drop n rest, hx, List.getLast?_append]; rfl
  rw [hx, hlast]
  simp

/-- Settles O19: the three steps of `judgeFraming` in their order, on the slot that the bytes fill. -/
theorem framingRefusals : Obligations.FramingRefusals := by
  intro h0 h1 rest s hphase hrequests hprocess hanswers bytes arguments wellLong checked known refused
  have refuses {slot : RequestSlot} {status : Status} (hslot : storedSlot bytes = some slot)
      (hflag : slot.flagged = h0.msb)
      (hjudged : judgeFraming s.targetAddress (s.rule Rule.checkRequired) slot = .error status) : refused status :=
    have h := congrArg Host.Outcome.next
      (consoleWrite_of_framing_refused hphase hrequests hprocess hanswers hslot hflag hjudged)
    ⟨_, h, h⟩
  have whole (h : wellLong) :
      storedSlot bytes = some { bytes := bytes, truncated := false, overlength := false } :=
    storedSlot_of_exact h.1 h.2
  refine ⟨fun hlong => ?length, fun hlong hcheck => ?check, fun hlong hcheck hknown => ?known⟩
  case length =>
    refine refuses rfl ?_ ?_
    · have hcount : ∃ k, storedCount bytes = k + 1 := by
        simp only [bytes, storedCount]
        split
        · exact ⟨1, rfl⟩
        · exact ⟨_, Nat.add_comm 2 _⟩
      obtain ⟨k, hk⟩ := hcount
      simp only [RequestSlot.flagged, hk, bytes, List.take_succ_cons]
    · have hmarked : (decide (40 < h1.toNat ∨ rest.length < h1.toNat + flag h0.msb) ||
          decide (40 < h1.toNat ∨ h1.toNat + flag h0.msb < rest.length)) = true := by
        change ¬ (h1.toNat ≤ 40 ∧ rest.length = h1.toNat + flag h0.msb) at hlong
        simp only [Bool.or_eq_true, decide_eq_true_eq]
        omega
      simp only [judgeFraming, hmarked, if_true]
  case check =>
    refine refuses (whole hlong) rfl ?_
    have hbad : (if h0.msb then rest.drop h1.toNat ≠ [crc8 (addressByte s.targetAddress false :: h0 :: h1 :: arguments)]
        else s.rule Rule.checkRequired = 1) := by
      have hlength := hlong.2
      simp only [checked] at hcheck
      split at hcheck
      · next hflag =>
        rw [if_pos hflag] at hlength ⊢
        exact fun h => hcheck ((drop_eq_singleton_iff hlength _).mp h)
      · next hflag => rw [if_neg hflag]; exact not_not.mp hcheck
    simp [judgeFraming, bytes, hbad, arguments]
  case known =>
    refine refuses (whole hlong) rfl ?_
    have hgood : ¬ (if h0.msb then
        rest.drop h1.toNat ≠ [crc8 (addressByte s.targetAddress false :: h0 :: h1 :: arguments)]
        else s.rule Rule.checkRequired = 1) := by
      have hlength := hlong.2
      simp only [checked] at hcheck
      split at hcheck
      · next hflag =>
        rw [if_pos hflag] at hlength ⊢
        exact not_not.mpr ((drop_eq_singleton_iff hlength _).mpr hcheck)
      · next hflag => rw [if_neg hflag]; exact hcheck
    have hunknown : h0.getLsbD 6 = false → decodeRequest (h0.toNat % 64) arguments = none := fun hbit =>
      Option.not_isSome_iff_eq_none.mp fun hsome => hknown ⟨hbit, hsome⟩
    simp only [judgeFraming, bytes, if_neg hgood, arguments] at hunknown ⊢
    cases hbit : h0.getLsbD 6 with
    | true => simp
    | false => simp [hunknown hbit]

end Sys2Proof.Machine
end

section
/-! PROOFS. What a step can do: `Event` lists every event of the device with the condition under which it occurs, and a
command leads from a state to the next by a chain of them. -/

namespace Sys2Proof.Machine

/-- The state but for the console port's slots, the recall flag and the record of the bus. -/
def State.outsidePort (s : State) : State :=
  { s with requests := [], inProcess := none, answers := [], recalling := false
           bus := { acknowledged := [], shifted := [] } }

/-- The text of a message stored, and sent by a board in MESSAGE (R161): `serveSetMessage` by `serveSetMessage_eq`. -/
def storeMessage (b : BoardNo) (text : List Byte) (s : State) : State :=
  let stored := s.setBoard b { s.board b with message := padRight 32 (text.map printable) }
  if (s.board b).mode = .message then sendImage b (some .message) stored else stored

/-- The kind of a round that an OPEN ROUND may open (R78). -/
def RoundKind.WellFormed : RoundKind → Prop
  | .buzz => True
  | .poll choices key => 2 ≤ choices ∧ choices ≤ 6 ∧ ∀ k, key = some k → 1 ≤ k ∧ k ≤ choices

/-- What the block that owns a request does with it, but for a recall. -/
inductive Service : State → State → Prop
  | unchanged (s) : Service s s
  | clearNotices (mask s) : Service s { s with notices := s.notices &&& ~~~mask }
  | resetSession (s) : Service s (endEvent s (resetSession s))
  | enrolTeam {t label s} (score) (hfree : (s.team t).state = .free) (hlabel : label.length ≤ 8) :
      Service s (enrolTeam t label score s)
  | renameTeam {t label s} (hstate : (s.team t).state ≠ .free) (hlabel : label.length ≤ 8) : Service s (renameTeam t label s)
  | benchTeam {t s} (hactive : (s.team t).state = .active) : Service s (endEvent s (benchTeam t s))
  | recallTeam {t s} (hbenched : (s.team t).state = .benched) : Service s (recallTeam t s)
  | retireTeam {t s} (hlisted : (s.team t).state.listed = true) : Service s (endEvent s (retireTeam t s))
  | purgeTeam {t s} (hretired : (s.team t).state = .retired) : Service s (purgeTeam t s)
  | changeScore {t s} (wanted) (hstate : (s.team t).state ≠ .free) : Service s (changeScore t wanted s).1
  | bindSeat {i t s} (hlisted : (s.team t).state.listed = true) (hother : (s.seat i).team ≠ some t)
      (hroom : s.memberCount t < 16) : Service s (endEvent s (bindSeat i t s))
  | unbindSeat (i s) : Service s (endEvent s (unbindSeat i s))
  | openRound {kind s} (window) (hidle : s.roundActive = false) (hkind : kind.WellFormed) :
      Service s (endEvent s (openRound kind (clampWindow window) s))
  | closeRound {s} (hopened : s.round.state = .opened) : Service s (enterSettling s.clock.count s)
  | abandonRound {s} (hactive : s.roundActive = true) : Service s (endEvent s (closeRound .abandoned s))
  | storeKey {key choices s} (hstate : s.round.state = .opened ∨ s.round.state = .settling)
      (hkind : s.kind = some (.poll choices none)) (hlow : 1 ≤ key) (hhigh : key ≤ choices) : Service s (storeKey key s)
  | scoreKey {key choices s} (hstate : s.round.state = .keywait)
      (hkind : s.kind = some (.poll choices none)) (hlow : 1 ≤ key) (hhigh : key ≤ choices) :
      Service s (endEvent s (scoreAndClose key (storeKey key s)))
  | judge {d s} (v) (hcalled : s.calledClaim = some d) : Service s (endEvent s (applyVerdict v d s))
  | setConfig {b v s} (hv : v < 64) : Service s (writeRule (Rule.boardCfg b) v s)
  | setMessage (b text s) : Service s (storeMessage b text s)
  | setRule (r v s) : Service s (endEvent s (writeRule r (clampRule (s.rule Rule.holdUpper) r v) s))
  | storeRules {s} (hfree : s.storing = none) : Service s { s with storing := some (snapshot s.rules) }

/-- One event of the device: of its rows, of the port, or of the block that owns a request. -/
inductive Event : State → State → Prop
  | port {s t} (h : t.outsidePort = s.outsidePort) : Event s t
  | powerOn (s) : Event s (powerOn s)
  | powerLoss (s) : Event s (powerLoss s)
  | resetPinLow (s) : Event s (resetPinLow s)
  | startUp (addr1 addr0 s) : Event s (startUp addr1 addr0 s)
  | startUpEnd (s) : Event s (startUpEnd s)
  | revealPinChange (level s) : Event s (revealPinChange level s)
  | revealLevelTaken (s) : Event s (revealLevelTaken s)
  | storeComplete (s) : Event s (storeComplete s)
  | recallFinished (s) : Event s (finishRecall s).1
  | watchdogExpiry (s) : Event s (watchdogExpiry s)
  | startEdge (n falseStart s) : Event s (startEdge n falseStart s)
  | gapLimit (n s) : Event s (gapLimit n s)
  | characterEnd (n char s) : Event s (characterEnd n char s)
  | seatTableTake (n s) : Event s (seatTableTake n s)
  | housekeepingExpiry (s) : Event s (housekeepingExpiry s)
  | downstreamFrameEnd (n s) : Event s (downstreamFrameEnd n s)
  | roundClockStep (s) : Event s (roundClockStep s)
  | windowEnd (s) : Event s (windowEnd s)
  | settlingEnd (s) : Event s (settlingEnd s)
  | callEvent (s) : Event s (callEvent s)
  | judgeDeadlineEvent (s) : Event s (judgeDeadlineEvent s)
  | transferEnd (b s) : Event s (transferEnd b s)
  | requestTaken (s) : Event s (requestTaken s)
  | service {s t} (h : Service s t) : Event s t

/-- A chain of events. -/
abbrev Events : State → State → Prop := Relation.ReflTransGen Event

variable {s t u : State}

/-! ## The owning blocks -/

/-- A service whose reply is left aside. -/
theorem Service.of_ite {P : Prop} [Decidable P] {x y : Served} (hx : P → Service s x.1) (hy : ¬P → Service s y.1) :
    Service s (if P then x else y).1 := by
  split
  · next h => exact hx h
  · next h => exact hy h

section
variable (team seat : Byte) (v : BitVec 24) {label : List Byte} (s)

theorem serveEnrolTeam_service (hlabel : label.length ≤ 8) : Service s (serveEnrolTeam team v label s).1 := by
  unfold serveEnrolTeam
  split
  · exact .unchanged s
  · exact .of_ite (.enrolTeam _ · hlabel) fun _ => .unchanged s

theorem serveRenameTeam_service (hlabel : label.length ≤ 8) : Service s (serveRenameTeam team label s).1 := by
  unfold serveRenameTeam
  split
  · exact .unchanged s
  · exact .of_ite (fun _ => .unchanged s) (.renameTeam · hlabel)

theorem serveBenchTeam_service : Service s (serveBenchTeam team s).1 := by
  unfold serveBenchTeam
  split
  · exact .unchanged s
  · exact .of_ite .benchTeam fun _ => .unchanged s

theorem serveRecallTeam_service : Service s (serveRecallTeam team s).1 := by
  unfold serveRecallTeam
  split
  · exact .unchanged s
  · exact .of_ite .recallTeam fun _ => .unchanged s

theorem serveRetireTeam_service : Service s (serveRetireTeam team s).1 := by
  unfold serveRetireTeam
  split
  · exact .unchanged s
  · exact .of_ite .retireTeam fun _ => .unchanged s

theorem servePurgeTeam_service : Service s (servePurgeTeam team s).1 := by
  unfold servePurgeTeam
  split
  · exact .unchanged s
  · exact .of_ite .purgeTeam fun _ => .unchanged s

theorem serveAdjustScore_service : Service s (serveAdjustScore team v s).1 := by
  unfold serveAdjustScore
  split
  · exact .unchanged s
  · exact .of_ite (fun _ => .unchanged s) (.changeScore _)

theorem serveSetScore_service : Service s (serveSetScore team v s).1 := by
  unfold serveSetScore
  split
  · exact .unchanged s
  · exact .of_ite (fun _ => .unchanged s) (.changeScore _)

theorem serveBindSeat_service : Service s (serveBindSeat seat team s).1 := by
  unfold serveBindSeat
  split
  · refine .of_ite (fun _ => .unchanged s) fun hlisted => .of_ite (fun _ => .unchanged s) fun hother =>
      .of_ite (fun _ => .unchanged s) fun hroom => .bindSeat ?_ hother (Nat.lt_of_not_le hroom)
    simpa using hlisted
  · exact .unchanged s

theorem serveUnbindSeat_service : Service s (serveUnbindSeat seat s).1 := by
  unfold serveUnbindSeat
  split
  · exact .unchanged s
  · exact .of_ite (fun _ => .unchanged s) fun _ => .unbindSeat _ s

end

theorem openIfIdle_service {kind : RoundKind} (window : Nat) (acted : Bool) (hkind : kind.WellFormed) (s : State) :
    Service s (openIfIdle kind (clampWindow window) acted s).1 :=
  .of_ite (fun _ => .unchanged s) fun h => .openRound window (by simpa using h) hkind

theorem serveOpenRound_service (code : Byte) (window : BitVec 24) (choices key : Byte) (s : State) :
    Service s (serveOpenRound code window choices key s).1 := by
  refine .of_ite (fun _ => openIfIdle_service (kind := .buzz) _ _ trivial s) fun _ => .of_ite (fun _ => ?_) fun _ => .unchanged s
  refine .of_ite (fun _ => .unchanged s) fun hkey => openIfIdle_service _ _ ?_ s
  have hchoices : 2 ≤ clampNat 2 6 choices.toNat ∧ clampNat 2 6 choices.toNat ≤ 6 := by
    unfold clampNat; split
    · omega
    · split <;> omega
  refine ⟨hchoices.1, hchoices.2, fun k hk => ?_⟩
  split at hk
  · cases hk
  · next hne =>
    have hpos : key.toNat ≠ 0 := fun h => hne (BitVec.eq_of_toNat_eq h)
    cases hk
    omega

theorem serveCloseRound_service (s : State) : Service s (serveCloseRound s).1 := .of_ite .closeRound fun _ => .unchanged s

theorem serveAbandonRound_service (s : State) : Service s (serveAbandonRound s).1 :=
  .of_ite .abandonRound fun _ => .unchanged s

/-- In an active POLL round the key's range is the round's choices (R89). -/
theorem keyRange_of_poll {choices : Nat} {key : Option Nat} (hkind : s.kind = some (.poll choices key))
    (hactive : s.roundActive = true) : keyRange s = choices := by
  simp [keyRange, hkind, hactive]

theorem servePostKey_service (choice : Byte) (s : State) : Service s (servePostKey choice s).1 := by
  unfold servePostKey
  refine .of_ite (fun _ => .unchanged s) fun hrange => ?_
  obtain ⟨hzero, hkey⟩ := not_or.mp hrange
  have hlow : 1 ≤ choice.toNat := Nat.one_le_iff_ne_zero.mpr fun h => hzero (BitVec.eq_of_toNat_eq h)
  have hhigh {choices : Nat} (hkind : s.kind = some (.poll choices none)) (hactive : s.roundActive = true) :
      choice.toNat ≤ choices := by
    rw [keyRange_of_poll hkind hactive] at hkey; omega
  split
  · next hstate hkind => exact .storeKey (.inl hstate) hkind hlow (hhigh hkind (by rw [State.roundActive, hstate]; rfl))
  · next hstate hkind => exact .storeKey (.inr hstate) hkind hlow (hhigh hkind (by rw [State.roundActive, hstate]; rfl))
  · next hstate hkind => exact .scoreKey hstate hkind hlow (hhigh hkind (by rw [State.roundActive, hstate]; rfl))
  · exact .unchanged s

theorem serveJudge_service (verdict seat : Byte) (s : State) : Service s (serveJudge verdict seat s).1 := by
  unfold serveJudge
  split
  · split
    · next hcalled => exact .of_ite (fun _ => .judge _ hcalled) fun _ => .unchanged s
    · exact .unchanged s
  · exact .unchanged s

theorem BoardConfig.pack_lt (config : BoardConfig) : config.pack < 64 := by
  have hflag (b : Bool) : flag b ≤ 1 := by cases b <;> decide
  have hcode : config.source.code ≤ 3 := by cases config.source <;> decide
  have := hflag config.selectConsole
  have := hflag config.consoleEnable
  have := hflag config.autoHold
  have := hflag config.autoBlank
  unfold BoardConfig.pack
  omega

theorem serveSetBoard_service (board so se co ho bl : Byte) (s : State) :
    Service s (serveSetBoard board so se co ho bl s).1 := by
  unfold serveSetBoard
  split
  · exact .setConfig (BoardConfig.pack_lt _)
  · exact .unchanged s

theorem serveSetMessage_service (board : Byte) (text : List Byte) (s : State) :
    Service s (serveSetMessage board text s).1 := by
  unfold serveSetMessage
  split
  · exact .unchanged s
  · exact .setMessage _ text s

theorem serveSetRule_service (id : Byte) (value : BitVec 24) (s : State) : Service s (serveSetRule id value s).1 := by
  unfold serveSetRule
  split
  · exact .unchanged s
  · exact .of_ite (fun _ => .unchanged s) fun _ => .of_ite (fun _ => .unchanged s) fun _ => .setRule _ _ s

theorem serveStoreRules_service (s : State) : Service s (serveStoreRules s).1 :=
  .of_ite (fun _ => .unchanged s) fun hfree => .of_ite (fun _ => .unchanged s) fun _ => .storeRules (by simpa using hfree)

theorem serve_service (lost : Bool) {r : Request} (hw : r.wf = true) (hr : r ≠ .recallRules) (s : State) :
    Service s (serve lost r s).1 := by
  cases r with
  | keepalive | readNotices | readRound => exact .unchanged s
  | readTeam | readSeat | readRoll | readLine | readLadder | readSheet | readStandings | readBoard | readRule =>
    simp only [serve, serveReadTeam, serveReadSeat, serveReadRoll, serveReadLine, serveReadLadder, serveReadSheet,
      serveReadStandings, serveReadBoard, serveReadRule]
    split <;> exact .unchanged s
  | clearNotices mask => exact .clearNotices mask s
  | resetSession => exact .resetSession s
  | enrolTeam => exact serveEnrolTeam_service s _ _ (by simpa [Request.wf] using hw)
  | renameTeam => exact serveRenameTeam_service s _ (by simpa [Request.wf] using hw)
  | benchTeam => exact serveBenchTeam_service s _
  | recallTeam => exact serveRecallTeam_service s _
  | retireTeam => exact serveRetireTeam_service s _
  | purgeTeam => exact servePurgeTeam_service s _
  | adjustScore => exact serveAdjustScore_service s _ _
  | setScore => exact serveSetScore_service s _ _
  | bindSeat => exact serveBindSeat_service s _ _
  | unbindSeat => exact serveUnbindSeat_service s _
  | openRound => exact serveOpenRound_service _ _ _ _ s
  | closeRound => exact serveCloseRound_service s
  | abandonRound => exact serveAbandonRound_service s
  | postKey => exact servePostKey_service _ s
  | judge => exact serveJudge_service _ _ s
  | setBoard => exact serveSetBoard_service _ _ _ _ _ _ s
  | setMessage => exact serveSetMessage_service _ _ s
  | setRule => exact serveSetRule_service _ _ s
  | storeRules => exact serveStoreRules_service s
  | recallRules => exact absurd rfl hr

/-- A recall that is not refused runs on without a reply (R203). -/
theorem serve_recallRules (lost : Bool) (s : State) :
    (∃ reply, serve lost .recallRules s = (s, some reply)) ∨
      serve lost .recallRules s = ({ s with recalling := true }, none) ∧ s.storing = none ∧ s.roundActive = false := by
  have hserve : serve lost .recallRules s = match recallRefusal s with
    | some status => (s, some status.bare)
    | none => ({ s with recalling := true }, none) := rfl
  unfold recallRefusal at hserve
  split at hserve
  · next hrefused => exact .inl ⟨_, hserve⟩
  · next hrefusal =>
    split_ifs at hrefusal with hstoring hactive
    exact .inr ⟨hserve, by simpa using hstoring, by simpa using hactive⟩

/-- The owning block of a well-formed request causes one event. -/
theorem serve_event (lost : Bool) {r : Request} (hw : r.wf = true) (s : State) : Event s (serve lost r s).1 := by
  by_cases hr : r = .recallRules
  · subst hr
    obtain ⟨_, h⟩ | ⟨h, -⟩ := serve_recallRules lost s <;> rw [h] <;> exact .port rfl
  · exact .service (serve_service lost hw hr s)

/-! ## The port -/

/-- Framing admits well-formed requests alone (R178, R192). -/
theorem wf_of_judgeFraming {address : BitVec 7} {checkRequired : Nat} {slot : RequestSlot} {r : Request}
    (h : judgeFraming address checkRequired slot = .ok r) : r.wf = true := by
  unfold judgeFraming at h
  split at h
  · cases h
  · split at h
    · simp only at h
      split_ifs at h <;> split at h <;> simp_all
      all_goals exact (encoded_of_decodeRequest ‹_›).1
    · cases h

theorem Events.port (h : t.outsidePort = s.outsidePort) : Events s t := .single (.port h)

theorem takeValid_events (c : Bool) {r : Request} (hw : r.wf = true) (s : State) : Events s (takeValid c r s) := by
  have hserved : Events s (serve s.consoleLost r (requestTaken s)).1 :=
    .tail (.single (.requestTaken s)) (serve_event _ hw _)
  unfold takeValid
  split
  · next h => rw [h] at hserved; exact hserved.tail (.port rfl)
  · next h => rw [h] at hserved; exact hserved.tail (.port rfl)

theorem handleRequest_events (slot : RequestSlot) (s : State) : Events s (handleRequest slot s) := by
  unfold handleRequest
  split
  · exact .port rfl
  · next h => exact takeValid_events _ (wf_of_judgeFraming h) s

theorem takeRequest_events (s : State) : Events s (takeRequest s) := by
  unfold takeRequest
  split
  · exact .refl
  · split
    · exact (Events.port (by rfl)).trans (handleRequest_events _ _)
    · exact .refl

theorem consoleWrite_events (address : BitVec 7) (bytes : List Byte) (s : State) :
    Events s (consoleWrite address bytes s) := by
  unfold consoleWrite
  split
  · dsimp only
    split
    · exact .port rfl
    · exact (Events.port (by rfl)).trans (takeRequest_events _)
  · exact .port rfl

theorem consoleRead_events (address : BitVec 7) (acks : List Bool) (s : State) :
    Events s (consoleRead address acks s) := by
  unfold consoleRead
  split
  · split
    · exact .refl
    · split
      · exact (Events.port (by rfl)).trans (takeRequest_events _)
      · exact .port rfl
  · exact .port rfl

theorem recallComplete_events (s : State) : Events s (recallComplete s) := by
  unfold recallComplete
  split
  · split
    · exact (((Events.port (by rfl)).tail (.recallFinished { s with recalling := false })).tail (.port (by rfl))).trans
        (takeRequest_events _)
    · exact .refl
  · exact .refl

/-! ## The step -/

theorem seatFrame_event (n : LineNo) (char : Byte) (s : State) :
    Event s (if completesFrame n char s then characterEnd n char s else s) := by
  split
  · exact .characterEnd n char s
  · exact .service (.unchanged s)

theorem clockSaturation_event (s : State) : Event s (clockSaturation s) := by
  unfold clockSaturation
  split
  · exact .roundClockStep s
  · exact .service (.unchanged s)

/-- Every command leads to the next state by a chain of events, and is never stopped. -/
theorem exec_eq_events (i : Instr) (s : State) : ∃ t, exec i s = .next t ∧ Events s t := by
  cases hi : i.request? with
  | some row => exact ⟨_, exec_of_request hi s, consoleWrite_events _ _ s⟩
  | none =>
    cases i with
    | powerOn => exact ⟨_, rfl, .single (.powerOn s)⟩
    | powerLoss => exact ⟨_, rfl, .single (.powerLoss s)⟩
    | resetPinLow => exact ⟨_, rfl, .single (.resetPinLow s)⟩
    | startUp => exact ⟨_, rfl, .single (.startUp _ _ s)⟩
    | startUpEnd => exact ⟨_, rfl, .single (.startUpEnd s)⟩
    | consoleWrite => exact ⟨_, rfl, consoleWrite_events _ _ s⟩
    | consoleRead => exact ⟨_, rfl, consoleRead_events _ _ s⟩
    | requestFramingRefusal => exact ⟨_, rfl, consoleWrite_events _ _ s⟩
    | storeComplete => exact ⟨_, rfl, .single (.storeComplete s)⟩
    | recallComplete => exact ⟨_, rfl, recallComplete_events s⟩
    | watchdogExpiry => exact ⟨_, rfl, .single (.watchdogExpiry s)⟩
    | revealLevelTaken => exact ⟨_, rfl, .single (.revealLevelTaken s)⟩
    | seatFrame => exact ⟨_, rfl, .single (seatFrame_event _ _ s)⟩
    | gapLimit => exact ⟨_, rfl, .single (.gapLimit _ s)⟩
    | seatTableTake => exact ⟨_, rfl, .single (.seatTableTake _ s)⟩
    | housekeepingExpiry => exact ⟨_, rfl, .single (.housekeepingExpiry s)⟩
    | downstreamFrameEnd => exact ⟨_, rfl, .single (.downstreamFrameEnd _ s)⟩
    | roundClockStep => exact ⟨_, rfl, .single (.roundClockStep s)⟩
    | clockSaturation => exact ⟨_, rfl, .single (clockSaturation_event s)⟩
    | windowEnd => exact ⟨_, rfl, .single (.windowEnd s)⟩
    | settlingEnd => exact ⟨_, rfl, .single (.settlingEnd s)⟩
    | call => exact ⟨_, rfl, .single (.callEvent s)⟩
    | judgeDeadline => exact ⟨_, rfl, .single (.judgeDeadlineEvent s)⟩
    | transferEnd => exact ⟨_, rfl, .single (.transferEnd _ s)⟩
    | startEdge => exact ⟨_, rfl, .single (.startEdge _ _ s)⟩
    | characterReceived => exact ⟨_, rfl, .single (.characterEnd _ _ s)⟩
    | revealPinChange => exact ⟨_, rfl, .single (.revealPinChange _ s)⟩
    | _ => cases hi

/-- A predicate that every event keeps, and that does not look at the queue of commands, is kept by every step. -/
theorem keptByStep_of_events {inv : State → Prop} (hqueue : ∀ s p, inv s → inv { s with pending := p })
    (hevent : ∀ s t, Event s t → inv s → inv t) : KeptByStep inv := by
  intro s t hs hstep
  have hchain {s t : State} (h : Events s t) (hs : inv s) : inv t := by
    induction h with
    | refl => exact hs
    | tail _ hlast ih => exact hevent _ _ hlast ih
  unfold step at hstep
  split at hstep
  · cases hstep; exact hs
  · next i rest _ =>
    obtain ⟨_, hexec, hevents⟩ := exec_eq_events i { s with pending := rest }
    cases hexec.symm.trans hstep
    exact hchain hevents (hqueue s rest hs)

end Sys2Proof.Machine
end

section
/-! PROOFS. What the shared operations leave of each record: the reads of a state after a lamp write, a close, an update of
the Standings, a resolution of the boards and the end of an event. -/

namespace Sys2Proof.Machine

variable (s : State)

/-! ## Reads of equal views -/

section
variable {s t : State} (h : t.outsideBoards = s.outsideBoards)
include h

theorem State.team_of_boards (x : TeamNo) : t.team x = s.team x := by
  have e := congrArg (State.team · x) h; exact e
theorem State.seat_of_boards (i : SeatNo) : t.seat i = s.seat i := by
  have e := congrArg (State.seat · i) h; exact e
theorem State.line_of_boards (n : LineNo) : t.line n = s.line n := by
  have e := congrArg (State.line · n) h; exact e
theorem State.entry_of_boards (i : SeatNo) : t.entry i = s.entry i := by
  have e := congrArg (State.entry · i) h; exact e
theorem State.rule_of_boards (r : RuleId) : t.rule r = s.rule r := by
  have e := congrArg (State.rule · r) h; exact e
theorem State.lineEnabled_of_boards (n : LineNo) : t.lineEnabled n = s.lineEnabled n := by
  have e := congrArg (State.lineEnabled · n) h; exact e
theorem State.lines_of_boards : t.lines = s.lines := by
  have e := congrArg State.lines h; exact e
theorem State.round_of_boards : t.round = s.round := by
  have e := congrArg State.round h; exact e
theorem State.clock_of_boards : t.clock = s.clock := by
  have e := congrArg State.clock h; exact e
theorem State.ladder_of_boards : t.ladder = s.ladder := by
  have e := congrArg State.ladder h; exact e
theorem State.sheet_of_boards : t.sheet = s.sheet := by
  have e := congrArg State.sheet h; exact e
theorem State.standings_of_boards : t.standings = s.standings := by
  have e := congrArg State.standings h; exact e
theorem State.notices_of_boards : t.notices = s.notices := by
  have e := congrArg State.notices h; exact e
theorem State.rules_of_boards : t.rules = s.rules := by
  have e := congrArg State.rules h; exact e
theorem State.copy_of_boards : t.copy = s.copy := by
  have e := congrArg State.copy h; exact e
theorem State.kind_of_boards : t.kind = s.kind := by
  have e := congrArg State.kind h; exact e
theorem State.roundActive_of_boards : t.roundActive = s.roundActive := by
  have e := congrArg State.roundActive h; exact e
theorem State.phase_of_boards : t.phase = s.phase := by
  have e := congrArg State.phase h; exact e

end

section
variable {s t : State} (h : t.outsideScores = s.outsideScores)
include h

theorem State.seat_of_scores (i : SeatNo) : t.seat i = s.seat i := by
  have e := congrArg (State.seat · i) h; exact e
theorem State.line_of_scores (n : LineNo) : t.line n = s.line n := by
  have e := congrArg (State.line · n) h; exact e
theorem State.entry_of_scores (i : SeatNo) : t.entry i = s.entry i := by
  have e := congrArg (State.entry · i) h; exact e
theorem State.rule_of_scores (r : RuleId) : t.rule r = s.rule r := by
  have e := congrArg (State.rule · r) h; exact e
theorem State.lineEnabled_of_scores (n : LineNo) : t.lineEnabled n = s.lineEnabled n := by
  have e := congrArg (State.lineEnabled · n) h; exact e
theorem State.lines_of_scores : t.lines = s.lines := by
  have e := congrArg State.lines h; exact e
theorem State.round_of_scores : t.round = s.round := by
  have e := congrArg State.round h; exact e
theorem State.clock_of_scores : t.clock = s.clock := by
  have e := congrArg State.clock h; exact e
theorem State.ladder_of_scores : t.ladder = s.ladder := by
  have e := congrArg State.ladder h; exact e
theorem State.sheet_of_scores : t.sheet = s.sheet := by
  have e := congrArg State.sheet h; exact e
theorem State.notices_of_scores : t.notices = s.notices := by
  have e := congrArg State.notices h; exact e
theorem State.rules_of_scores : t.rules = s.rules := by
  have e := congrArg State.rules h; exact e
theorem State.copy_of_scores : t.copy = s.copy := by
  have e := congrArg State.copy h; exact e
theorem State.kind_of_scores : t.kind = s.kind := by
  have e := congrArg State.kind h; exact e
theorem State.roundActive_of_scores : t.roundActive = s.roundActive := by
  have e := congrArg State.roundActive h; exact e
theorem State.phase_of_scores : t.phase = s.phase := by
  have e := congrArg State.phase h; exact e

end

section
variable {s t : State} (h : t.outsideLamps = s.outsideLamps)
include h

theorem State.round_of_lamps : t.round = s.round := by
  have e := congrArg State.round h; exact e
theorem State.clock_of_lamps : t.clock = s.clock := by
  have e := congrArg State.clock h; exact e
theorem State.ladder_of_lamps : t.ladder = s.ladder := by
  have e := congrArg State.ladder h; exact e
theorem State.sheet_of_lamps : t.sheet = s.sheet := by
  have e := congrArg State.sheet h; exact e
theorem State.team_of_lamps (x : TeamNo) : t.team x = s.team x := by
  have e := congrArg (State.team · x) h; exact e
theorem State.standings_of_lamps : t.standings = s.standings := by
  have e := congrArg State.standings h; exact e
theorem State.notices_of_lamps : t.notices = s.notices := by
  have e := congrArg State.notices h; exact e
theorem State.copy_of_lamps : t.copy = s.copy := by
  have e := congrArg State.copy h; exact e
theorem State.kind_of_lamps : t.kind = s.kind := by
  have e := congrArg State.kind h; exact e
theorem State.entry_of_lamps (i : SeatNo) : t.entry i = s.entry i := by
  have e := congrArg (State.entry · i) h; exact e

end

/-! ## Lamp writes (R32) -/

section
variable (n : LineNo) (f : Line → Line) (i : SeatNo) (v : Lamp)

theorem State.queueOn_line (m : LineNo) :
    (s.queueOn n f).line m = if m = n ∧ s.lineEnabled n = true then f (s.line n) else s.line m := by
  unfold State.queueOn
  by_cases h : s.lineEnabled n = true
  · rw [if_pos h, State.setLine_line]; simp [h]
  · rw [if_neg h]; simp [h]

@[simp] theorem State.queueOn_seat (j : SeatNo) : (s.queueOn n f).seat j = s.seat j := by
  have e := congrArg (State.seat · j) (s.queueOn_frame n f); exact e

theorem lampWrite_seat (j : SeatNo) :
    (lampWrite i v s).seat j = if j = i then { s.seat i with lamp := v } else s.seat j := by
  rw [lampWrite, State.queueOn_seat, State.setSeat_seat]

theorem lampWrite_line (m : LineNo) :
    (lampWrite i v s).line m =
      if m = lineOf i ∧ s.lineEnabled (lineOf i) = true then (s.line m).queueLamp (localOf i) v else s.line m := by
  rw [lampWrite, State.queueOn_line, State.setSeat_line, State.setSeat_line, State.setSeat_lineEnabled]
  by_cases h : m = lineOf i
  · rw [h]
  · rw [if_neg (h ·.1), if_neg (h ·.1)]

@[simp] theorem lampWrite_team (t : TeamNo) : (lampWrite i v s).team t = s.team t := by
  have e := congrArg (State.team · t) (lampWrite_frame s i v); exact e
@[simp] theorem lampWrite_teams : (lampWrite i v s).teams = s.teams := by
  have e := congrArg State.teams (lampWrite_frame s i v); exact e
@[simp] theorem lampWrite_round : (lampWrite i v s).round = s.round := by
  have e := congrArg State.round (lampWrite_frame s i v); exact e
@[simp] theorem lampWrite_clock : (lampWrite i v s).clock = s.clock := by
  have e := congrArg State.clock (lampWrite_frame s i v); exact e
@[simp] theorem lampWrite_ladder : (lampWrite i v s).ladder = s.ladder := by
  have e := congrArg State.ladder (lampWrite_frame s i v); exact e
@[simp] theorem lampWrite_sheet : (lampWrite i v s).sheet = s.sheet := by
  have e := congrArg State.sheet (lampWrite_frame s i v); exact e
@[simp] theorem lampWrite_entry (j : SeatNo) : (lampWrite i v s).entry j = s.entry j := by
  have e := congrArg (State.entry · j) (lampWrite_frame s i v); exact e
@[simp] theorem lampWrite_standings : (lampWrite i v s).standings = s.standings := by
  have e := congrArg State.standings (lampWrite_frame s i v); exact e
@[simp] theorem lampWrite_boards : (lampWrite i v s).boards = s.boards := by
  have e := congrArg State.boards (lampWrite_frame s i v); exact e
@[simp] theorem lampWrite_notices : (lampWrite i v s).notices = s.notices := by
  have e := congrArg State.notices (lampWrite_frame s i v); exact e
@[simp] theorem lampWrite_rules : (lampWrite i v s).rules = s.rules := by
  have e := congrArg State.rules (lampWrite_frame s i v); exact e
@[simp] theorem lampWrite_copy : (lampWrite i v s).copy = s.copy := by
  have e := congrArg State.copy (lampWrite_frame s i v); exact e
@[simp] theorem lampWrite_kind : (lampWrite i v s).kind = s.kind := by
  have e := congrArg State.kind (lampWrite_frame s i v); exact e
@[simp] theorem lampWrite_lineEnabled (n : LineNo) : (lampWrite i v s).lineEnabled n = s.lineEnabled n := by
  have e := congrArg (State.lineEnabled · n) (lampWrite_frame s i v); exact e
@[simp] theorem lampWrite_roundActive : (lampWrite i v s).roundActive = s.roundActive := by
  have e := congrArg State.roundActive (lampWrite_frame s i v); exact e

end

/-! ## The resolution of the boards (R163) -/

section
@[simp] theorem resolveBoards_team (t : TeamNo) : (resolveBoards s).team t = s.team t := State.team_of_boards (resolveBoards_frame s) _
@[simp] theorem resolveBoards_seat (i : SeatNo) : (resolveBoards s).seat i = s.seat i := State.seat_of_boards (resolveBoards_frame s) _
@[simp] theorem resolveBoards_line (n : LineNo) : (resolveBoards s).line n = s.line n := State.line_of_boards (resolveBoards_frame s) _
end

/-! ## A closing round (R66, R93) -/

section
variable (o : RoundOutcome)

@[simp] theorem closeRound_team (t : TeamNo) : (closeRound o s).team t = { s.team t with locked := false } := by
  refine (State.team_of_boards (closeRound_spec s o) t).trans ?_
  simp [State.team]
@[simp] theorem closeRound_seat (i : SeatNo) : (closeRound o s).seat i = { s.seat i with locked := false } := by
  refine (State.seat_of_boards (closeRound_spec s o) i).trans ?_
  simp [State.seat]
@[simp] theorem closeRound_line (n : LineNo) : (closeRound o s).line n = s.line n :=
  (State.line_of_boards (closeRound_spec s o) _).trans rfl
@[simp] theorem closeRound_lines : (closeRound o s).lines = s.lines :=
  (State.lines_of_boards (closeRound_spec s o)).trans rfl
@[simp] theorem closeRound_round :
    (closeRound o s).round = { s.round with state := .closed, outcome := some o } :=
  (State.round_of_boards (closeRound_spec s o)).trans rfl
@[simp] theorem closeRound_clock : (closeRound o s).clock = { Clock.initial with count := s.clock.count } :=
  (State.clock_of_boards (closeRound_spec s o)).trans rfl
@[simp] theorem closeRound_ladder : (closeRound o s).ladder = [] :=
  (State.ladder_of_boards (closeRound_spec s o)).trans rfl
@[simp] theorem closeRound_sheet : (closeRound o s).sheet = s.sheet :=
  (State.sheet_of_boards (closeRound_spec s o)).trans rfl
@[simp] theorem closeRound_entry (i : SeatNo) : (closeRound o s).entry i = s.entry i :=
  (State.entry_of_boards (closeRound_spec s o) _).trans rfl
@[simp] theorem closeRound_standings : (closeRound o s).standings = s.standings :=
  (State.standings_of_boards (closeRound_spec s o)).trans rfl
@[simp] theorem closeRound_notices : (closeRound o s).notices = s.notices ||| Notice.roundClosed.mask :=
  (State.notices_of_boards (closeRound_spec s o)).trans rfl
@[simp] theorem closeRound_rules : (closeRound o s).rules = s.rules :=
  (State.rules_of_boards (closeRound_spec s o)).trans rfl
@[simp] theorem closeRound_lineEnabled (n : LineNo) : (closeRound o s).lineEnabled n = s.lineEnabled n :=
  (State.lineEnabled_of_boards (closeRound_spec s o) _).trans rfl
@[simp] theorem closeRound_roundActive : (closeRound o s).roundActive = false := by
  rw [State.roundActive, closeRound_round]; rfl
@[simp] theorem closeRound_copy : (closeRound o s).copy = s.copy := by
  rw [State.copy, closeRound_round]; rfl
@[simp] theorem closeRound_kind : (closeRound o s).kind = s.kind := by
  rw [State.kind, closeRound_round]; rfl

/-- Both boards resolve at a close (R93). -/
theorem closeRound_resolved (b : BoardNo) : BoardResolved s (closeRound o s) b :=
  (resolveBoards_resolved b _ : BoardResolved _ (closeRound o s) b)

theorem closeRound_board_keeps (b : BoardNo) :
    ((closeRound o s).board b).message = (s.board b).message ∧
      ((closeRound o s).board b).lastLive = (s.board b).lastLive := (closeRound_resolved s o b).keeps

end

/-! ## The Standings (R153 to R155) -/

theorem sendImage_board_keeps (b b' : BoardNo) (k : Option ImageKind) :
    ((sendImage b k s).board b').message = (s.board b').message ∧
      ((sendImage b k s).board b').lastLive = (s.board b').lastLive ∧
      ((sendImage b k s).board b').mode = (s.board b').mode ∧
      ((sendImage b k s).board b').shown = (s.board b').shown := by
  by_cases h : b' = b
  · subst h
    unfold sendImage
    split
    · simp
    · split
      · simp [startImage]
      · simp
  · rw [sendImage_board_of_ne h]; simp

theorem takeStandingsChange_board_keeps (b b' : BoardNo) :
    ((takeStandingsChange b s).board b').message = (s.board b').message ∧
      ((takeStandingsChange b s).board b').lastLive = (s.board b').lastLive ∧
      ((takeStandingsChange b s).board b').mode = (s.board b').mode ∧
      ((takeStandingsChange b s).board b').shown = (s.board b').shown := by
  unfold takeStandingsChange
  split
  · exact sendImage_board_keeps s b b' _
  · simp

/-- Both boards take the standings change of an update, and nothing else is written than the list and the ranks. -/
theorem updateStandings_spec : (updateStandings s).outsideBoards = (updateList s).outsideBoards :=
  (takeStandingsChange_frame _ 1).trans (takeStandingsChange_frame (updateList s) 0)

theorem updateStandings_board_keeps (b : BoardNo) :
    ((updateStandings s).board b).message = (s.board b).message ∧
      ((updateStandings s).board b).lastLive = (s.board b).lastLive ∧
      ((updateStandings s).board b).mode = (s.board b).mode ∧
      ((updateStandings s).board b).shown = (s.board b).shown := by
  have hlist : (updateList s).board b = s.board b := rfl
  obtain ⟨h1, h2, h3, h4⟩ := takeStandingsChange_board_keeps (updateList s) 0 b
  obtain ⟨k1, k2, k3, k4⟩ := takeStandingsChange_board_keeps (takeStandingsChange 0 (updateList s)) 1 b
  rw [updateStandings, k1, k2, k3, k4, h1, h2, h3, h4, hlist]
  exact ⟨rfl, rfl, rfl, rfl⟩

/-- The rank that an update of the list gives a team (R154). -/
def State.rankOf (t : TeamNo) : Option Nat :=
  if (s.team t).state.listed then some (rankIn s (sortedTeams s) t) else none

theorem updateStandings_team (t : TeamNo) :
    (updateStandings s).team t = { s.team t with rank := s.rankOf t } := by
  refine (State.team_of_boards (updateStandings_spec s) t).trans ?_
  simp [State.team, updateList, State.rankOf]

@[simp] theorem updateStandings_standings : (updateStandings s).standings = sortedTeams s :=
  (State.standings_of_boards (updateStandings_spec s)).trans rfl
@[simp] theorem updateStandings_seat (i : SeatNo) : (updateStandings s).seat i = s.seat i :=
  (State.seat_of_boards (updateStandings_spec s) _).trans rfl
@[simp] theorem updateStandings_line (n : LineNo) : (updateStandings s).line n = s.line n :=
  (State.line_of_boards (updateStandings_spec s) _).trans rfl
@[simp] theorem updateStandings_entry (i : SeatNo) : (updateStandings s).entry i = s.entry i :=
  (State.entry_of_boards (updateStandings_spec s) _).trans rfl
@[simp] theorem updateStandings_lines : (updateStandings s).lines = s.lines :=
  (State.lines_of_boards (updateStandings_spec s)).trans rfl
@[simp] theorem updateStandings_round : (updateStandings s).round = s.round :=
  (State.round_of_boards (updateStandings_spec s)).trans rfl
@[simp] theorem updateStandings_clock : (updateStandings s).clock = s.clock :=
  (State.clock_of_boards (updateStandings_spec s)).trans rfl
@[simp] theorem updateStandings_ladder : (updateStandings s).ladder = s.ladder :=
  (State.ladder_of_boards (updateStandings_spec s)).trans rfl
@[simp] theorem updateStandings_sheet : (updateStandings s).sheet = s.sheet :=
  (State.sheet_of_boards (updateStandings_spec s)).trans rfl
@[simp] theorem updateStandings_notices : (updateStandings s).notices = s.notices :=
  (State.notices_of_boards (updateStandings_spec s)).trans rfl
@[simp] theorem updateStandings_rules : (updateStandings s).rules = s.rules :=
  (State.rules_of_boards (updateStandings_spec s)).trans rfl

/-! ## A score that is written (R140) -/

section
variable (t : TeamNo) (x : Team)

/-- A team record that is written and handed on when it tells: every other field but the ranks stays. -/
theorem writeScore_team (y : TeamNo) : ∃ rank,
    (writeScore t x s).team y = { (if y = t then x else s.team y) with rank := rank } := by
  unfold writeScore
  split
  · exact ⟨_, by rw [updateStandings_team, State.setTeam_team]⟩
  · exact ⟨_, by rw [State.setTeam_team]⟩

@[simp] theorem writeScore_seat (i : SeatNo) : (writeScore t x s).seat i = s.seat i := State.seat_of_scores (writeScore_frame s t x) _
@[simp] theorem writeScore_line (n : LineNo) : (writeScore t x s).line n = s.line n := State.line_of_scores (writeScore_frame s t x) _
@[simp] theorem writeScore_entry (i : SeatNo) : (writeScore t x s).entry i = s.entry i := State.entry_of_scores (writeScore_frame s t x) _
@[simp] theorem writeScore_round : (writeScore t x s).round = s.round := State.round_of_scores (writeScore_frame s t x)
@[simp] theorem writeScore_clock : (writeScore t x s).clock = s.clock := State.clock_of_scores (writeScore_frame s t x)
@[simp] theorem writeScore_ladder : (writeScore t x s).ladder = s.ladder := State.ladder_of_scores (writeScore_frame s t x)
@[simp] theorem writeScore_sheet : (writeScore t x s).sheet = s.sheet := State.sheet_of_scores (writeScore_frame s t x)
@[simp] theorem writeScore_notices : (writeScore t x s).notices = s.notices := State.notices_of_scores (writeScore_frame s t x)
@[simp] theorem writeScore_rules : (writeScore t x s).rules = s.rules := State.rules_of_scores (writeScore_frame s t x)
@[simp] theorem writeScore_copy : (writeScore t x s).copy = s.copy := State.copy_of_scores (writeScore_frame s t x)

theorem writeScore_board_keeps (b : BoardNo) :
    ((writeScore t x s).board b).message = (s.board b).message ∧
      ((writeScore t x s).board b).lastLive = (s.board b).lastLive ∧
      ((writeScore t x s).board b).mode = (s.board b).mode ∧
      ((writeScore t x s).board b).shown = (s.board b).shown := by
  unfold writeScore
  split
  · exact updateStandings_board_keeps (s.setTeam t x) b
  · simp

end

/-! ## The POLL scoring event (R149) -/

section
variable (key : Nat)

theorem scorePoll_team (y : TeamNo) : ∃ rank,
    (scorePoll key s).team y = { s.polledTeam key y with rank := rank } := by
  have hscored (y : TeamNo) : State.team { s with teams := Vector.ofFn fun t => s.polledTeam key t } y =
      s.polledTeam key y := by simp [State.team]
  unfold scorePoll
  dsimp only
  split
  · exact ⟨_, by rw [updateStandings_team, hscored]⟩
  · exact ⟨_, by rw [hscored]⟩

@[simp] theorem scorePoll_seat (i : SeatNo) : (scorePoll key s).seat i = s.seat i := State.seat_of_scores (scorePoll_frame s key) _
@[simp] theorem scorePoll_line (n : LineNo) : (scorePoll key s).line n = s.line n := State.line_of_scores (scorePoll_frame s key) _
@[simp] theorem scorePoll_entry (i : SeatNo) : (scorePoll key s).entry i = s.entry i := State.entry_of_scores (scorePoll_frame s key) _
@[simp] theorem scorePoll_round : (scorePoll key s).round = s.round := State.round_of_scores (scorePoll_frame s key)
@[simp] theorem scorePoll_clock : (scorePoll key s).clock = s.clock := State.clock_of_scores (scorePoll_frame s key)
@[simp] theorem scorePoll_ladder : (scorePoll key s).ladder = s.ladder := State.ladder_of_scores (scorePoll_frame s key)
@[simp] theorem scorePoll_sheet : (scorePoll key s).sheet = s.sheet := State.sheet_of_scores (scorePoll_frame s key)
@[simp] theorem scorePoll_notices : (scorePoll key s).notices = s.notices := State.notices_of_scores (scorePoll_frame s key)
@[simp] theorem scorePoll_rules : (scorePoll key s).rules = s.rules := State.rules_of_scores (scorePoll_frame s key)

theorem scorePoll_board_keeps (b : BoardNo) :
    ((scorePoll key s).board b).message = (s.board b).message ∧
      ((scorePoll key s).board b).lastLive = (s.board b).lastLive ∧
      ((scorePoll key s).board b).mode = (s.board b).mode ∧
      ((scorePoll key s).board b).shown = (s.board b).shown := by
  have hscored : State.board { s with teams := Vector.ofFn fun t => s.polledTeam key t } b = s.board b := rfl
  obtain ⟨h1, h2, h3, h4⟩ := updateStandings_board_keeps { s with teams := Vector.ofFn fun t => s.polledTeam key t } b
  unfold scorePoll
  dsimp only
  split
  · rw [h1, h2, h3, h4, hscored]
    exact ⟨rfl, rfl, rfl, rfl⟩
  · rw [hscored]
    exact ⟨rfl, rfl, rfl, rfl⟩

end

/-! ## The end of an event (R59, R60) -/

section
variable (before : State)

theorem kickLines_line (n : LineNo) : (kickLines s).line n = (s.line n).kick := State.mapLines_line s _ n

theorem queueMarks_line (m : Mark) (n : LineNo) :
    (queueMarks m s).line n = if s.lineEnabled n then (s.line n).queueMark m else s.line n := State.mapLines_line s _ n

theorem endEvent_line (n : LineNo) :
    (endEvent before s).line n =
      if before.roundActive = true ∧ s.round.state = .closed ∧ s.lineEnabled n = true then
        ((s.line n).queueMark .closed).kick
      else (s.line n).kick := by
  unfold endEvent
  rw [kickLines_line]
  by_cases h : before.roundActive = true ∧ s.round.state = .closed
  · rw [if_pos h, queueMarks_line]
    simp only [h, true_and]
    split <;> rfl
  · rw [if_neg h, if_neg fun hall => h ⟨hall.1, hall.2.1⟩]

@[simp] theorem endEvent_team (t : TeamNo) : (endEvent before s).team t = s.team t := by
  have e := congrArg (State.team · t) (endEvent_frame before s); exact e
@[simp] theorem endEvent_board (b : BoardNo) : (endEvent before s).board b = s.board b := by
  have e := congrArg (State.board · b) (endEvent_frame before s); exact e
@[simp] theorem endEvent_entry (i : SeatNo) : (endEvent before s).entry i = s.entry i := by
  have e := congrArg (State.entry · i) (endEvent_frame before s); exact e
@[simp] theorem endEvent_round : (endEvent before s).round = s.round := by
  have e := congrArg State.round (endEvent_frame before s); exact e
@[simp] theorem endEvent_clock : (endEvent before s).clock = s.clock := by
  have e := congrArg State.clock (endEvent_frame before s); exact e
@[simp] theorem endEvent_ladder : (endEvent before s).ladder = s.ladder := by
  have e := congrArg State.ladder (endEvent_frame before s); exact e
@[simp] theorem endEvent_sheet : (endEvent before s).sheet = s.sheet := by
  have e := congrArg State.sheet (endEvent_frame before s); exact e
@[simp] theorem endEvent_standings : (endEvent before s).standings = s.standings := by
  have e := congrArg State.standings (endEvent_frame before s); exact e

/-- A kick, a queued mark and a queued lamp leave the receiving side of a line (R41). -/
theorem Line.kick_receiving (l : Line) :
    { l.kick with flow := none, entries := [], sending := none } =
      { l with flow := none, entries := [], sending := none } := by
  unfold Line.kick; split <;> rfl

end

end Sys2Proof.Machine
end

section
/-! PROOFS. The events of a contest as chains of single writes: every operation of the ladder, the sheet, the Round
Controller and the unbinding of seats is one, so what each write keeps they all keep. -/

namespace Sys2Proof.Machine

/-- One write of an event of the contest. -/
inductive ContestWrite : State → State → Prop
  | lamp (i v s) : ContestWrite s (lampWrite i v s)
  | notice (k s) : ContestWrite s (s.setNotice k)
  | clock (x s) : ContestWrite s { s with clock := x }
  | ladder (x s) : ContestWrite s { s with ladder := x }
  | entry (i x s) : ContestWrite s (s.setEntry i x)
  | lockTeam (t s) : ContestWrite s (s.setTeam t { s.team t with locked := true })
  | lockSeat (i locked s) : ContestWrite s (s.setSeat i { s.seat i with locked })
  | unbind (i s) : ContestWrite s (s.setSeat i { s.seat i with team := none })
  | round {x s} (hactive : x.state.active = s.roundActive)
      (hcopy : x.body.map (·.copy) = s.round.body.map (·.copy)) : ContestWrite s { s with round := x }
  | close (o s) : ContestWrite s (closeRound o s)
  | right (t s) : ContestWrite s (scoreRight t s)
  | wrong (t s) : ContestWrite s (scoreWrong t s)
  | poll (key s) : ContestWrite s (scorePoll key s)

/-- A chain of writes of an event of the contest. -/
abbrev ContestWrites : State → State → Prop := Relation.ReflTransGen ContestWrite

variable {s t u : State}

/-! ## The operations as chains of writes -/

theorem ContestWrite.chain (h : ContestWrite s t) : ContestWrites s t := .single h

/-- A write of a seat's lamp where a condition holds. -/
theorem lampWrites_writes (v : SeatNo → Option Lamp) (s : State) : ContestWrites s (lampWrites v s) := by
  unfold lampWrites
  generalize allSeats = l
  induction l generalizing s with
  | nil => exact .refl
  | cons i l ih =>
    rw [List.foldl_cons]
    refine .trans ?_ (ih _)
    split
    · exact (ContestWrite.lamp _ _ s).chain
    · exact .refl

theorem callHead_writes (s : State) : ContestWrites s (callHead s) := by
  unfold callHead
  split
  · exact .refl
  · next head rest _ =>
    exact ((((ContestWrite.ladder ({ head with called := true } :: rest) s).chain).tail
      (.clock { s.clock with call := none, judgeDeadline := some (s.clock.count + s.copy.judgeWindow) } _)).tail
      (.lamp head.seat .called _)).tail (.notice .claimCalled _)

theorem rearmCall_writes (s : State) : ContestWrites s (rearmCall s) := by
  unfold rearmCall
  split
  · exact (ContestWrite.clock _ s).chain
  · split
    · exact (ContestWrite.clock _ s).chain
    · dsimp only
      split
      · exact callHead_writes s
      · exact (ContestWrite.clock _ s).chain

theorem ladderGoesOn_writes (s : State) : ContestWrites s (ladderGoesOn s) := by
  unfold ladderGoesOn
  split
  · exact (ContestWrite.close _ s).chain
  · exact rearmCall_writes s

theorem lockOutTeam_writes (x : TeamNo) (s : State) : ContestWrites s (lockOutTeam x s) := by
  unfold lockOutTeam
  dsimp only
  refine .trans (.trans (ContestWrite.lockTeam x s).chain ?_) (lampWrites_writes _ _)
  split
  · exact (ContestWrite.ladder _ _).chain.trans (rearmCall_writes _)
  · exact .refl

theorem insertClaim_writes (x : TeamNo) (i : SeatNo) (offset : Nat) (s : State) :
    ContestWrites s (insertClaim x i offset s) :=
  ((ContestWrite.ladder _ s).chain.tail (.lamp i .wait _)).trans (rearmCall_writes _)

theorem replaceClaim_writes (old : Claim) (i : SeatNo) (offset : Nat) (s : State) :
    ContestWrites s (replaceClaim old i offset s) := by
  unfold replaceClaim
  dsimp only
  refine .trans ?_ ((ContestWrite.lamp i .wait _).chain.trans (rearmCall_writes _))
  split
  · exact (ContestWrite.ladder _ s).chain
  · exact (ContestWrite.ladder _ s).chain.tail (.lamp _ _ _)

theorem ladderPress_writes (x : TeamNo) (f : SeatFrame) (s : State) : ContestWrites s (ladderPress x f s) := by
  unfold ladderPress
  dsimp only
  split; · exact .refl
  split; · exact .refl
  split; · exact .refl
  split
  · split
    · exact lockOutTeam_writes x s
    · exact .refl
  split; · exact .refl
  split
  · split
    · exact replaceClaim_writes _ _ _ s
    · exact .refl
  · exact insertClaim_writes _ _ _ s

theorem storeAnswer_writes (i : SeatNo) (e : SheetEntry) (s : State) : ContestWrites s (storeAnswer i e s) :=
  (ContestWrite.entry i _ s).chain.tail (.lamp i _ _)

theorem lockOutSeat_writes (i : SeatNo) (s : State) : ContestWrites s (lockOutSeat i s) :=
  ((ContestWrite.lockSeat i true s).chain.tail (.entry i none _)).tail (.lamp i _ _)

theorem sheetPress_writes (choices : Nat) (f : SeatFrame) (s : State) : ContestWrites s (sheetPress choices f s) := by
  unfold sheetPress
  split; · exact .refl
  split; · exact .refl
  split; · exact .refl
  split
  · split
    · exact lockOutSeat_writes _ s
    · exact .refl
  split; · exact .refl
  split
  · exact storeAnswer_writes _ _ s
  · split
    · exact storeAnswer_writes _ _ s
    · exact .refl

theorem handPress_writes (f : SeatFrame) (s : State) : ContestWrites s (handPress f s) := by
  unfold handPress
  split; swap; · exact .refl
  split; swap; · exact .refl
  split; swap; · exact .refl
  split
  · split
    · exact ladderPress_writes _ f s
    · exact .refl
  · split
    · exact sheetPress_writes _ f s
    · exact .refl
  · exact .refl

theorem verdictLamps_writes (d : Claim) (v : Lamp) (s : State) : ContestWrites s (verdictLamps d v s) :=
  lampWrites_writes _ s

theorem removeCalled_writes (d : Claim) (s : State) : ContestWrites s (removeCalled d s) :=
  (ContestWrite.ladder (s.ladder.filter (·.team ≠ d.team)) s).chain.tail
    (.clock { s.clock with judgeDeadline := none } _)

theorem judgeRight_writes (d : Claim) (s : State) : ContestWrites s (judgeRight d s) :=
  (((ContestWrite.right d.team s).chain.tail (.lamp d.seat .right _)).trans (lampWrites_writes _ _)).tail (.close _ _)

theorem judgeWrong_writes (d : Claim) (s : State) : ContestWrites s (judgeWrong d s) :=
  ((((ContestWrite.wrong d.team s).chain.tail (.lockTeam d.team _)).trans (verdictLamps_writes d .wrong _)).trans
    (removeCalled_writes d _)).trans (ladderGoesOn_writes _)

theorem judgePass_writes (d : Claim) (s : State) : ContestWrites s (judgePass d s) :=
  (((ContestWrite.lockTeam d.team s).chain.trans (verdictLamps_writes d .locked _)).trans
    (removeCalled_writes d _)).trans (ladderGoesOn_writes _)

theorem timeOut_writes (d : Claim) (s : State) : ContestWrites s (timeOut d s) := by
  unfold timeOut
  split
  · exact (ContestWrite.notice .judgeTimeout s).chain.trans (judgeWrong_writes d _)
  · exact (ContestWrite.notice .judgeTimeout s).chain.trans (judgePass_writes d _)

theorem dropClaim_writes (d : Claim) (s : State) : ContestWrites s (dropClaim d s) := by
  unfold dropClaim
  split
  · exact (((removeCalled_writes d s).tail (.lamp d.seat .idle _)).tail (.notice .claimCancelled _)).trans
      (ladderGoesOn_writes _)
  · exact ((ContestWrite.ladder _ s).chain.tail (.lamp d.seat .idle _)).trans (ladderGoesOn_writes _)

theorem dropTeamClaim_writes (x : TeamNo) (s : State) : ContestWrites s (dropTeamClaim x s) := by
  unfold dropTeamClaim
  split
  · exact dropClaim_writes _ s
  · exact .refl

theorem dropSeatClaim_writes (i : SeatNo) (s : State) : ContestWrites s (dropSeatClaim i s) := by
  unfold dropSeatClaim
  split
  · exact dropClaim_writes _ s
  · exact .refl

theorem unbindSeat_writes (i : SeatNo) (s : State) : ContestWrites s (unbindSeat i s) := by
  unfold unbindSeat
  dsimp only
  split
  · exact .refl
  · exact ((((dropSeatClaim_writes i s).tail (.entry i none _)).tail (.lockSeat i false _)).tail
      (.lamp i .idle _)).tail (.unbind i _)

theorem unbindMembers_writes (x : TeamNo) (s : State) : ContestWrites s (unbindMembers x s) := by
  unfold unbindMembers
  generalize s.members x = l
  induction l generalizing s with
  | nil => exact .refl
  | cons i l ih => exact (unbindSeat_writes i s).trans (ih _)

theorem settle_writes {s : State} (hsettling : s.round.state = .settling) : ContestWrites s (settle s) := by
  have hactive : s.roundActive = true := by rw [State.roundActive, hsettling]; rfl
  unfold settle
  split
  · split
    · exact (ContestWrite.close _ s).chain
    · exact (ContestWrite.round (x := { s.round with state := .draining }) (by rw [hactive]; rfl) rfl).chain
  · exact (ContestWrite.poll _ s).chain.tail (.close _ _)
  · exact (ContestWrite.round (x := { s.round with state := .keywait }) (by rw [hactive]; rfl) rfl).chain.tail
      (.notice .keyWanted _)
  · exact .refl

theorem enterSettling_writes {instant : Nat} {s : State} (hopened : s.round.state = .opened) :
    ContestWrites s (enterSettling instant s) :=
  (ContestWrite.round (x := { s.round with state := .settling
                                           body := s.round.body.map fun b => { b with closeInstant := instant } })
    (by rw [State.roundActive, hopened]; rfl) (by cases s.round.body <;> rfl)).chain.tail
    (.clock { s.clock with windowEnd := none, settlingEnd := some (instant + 128) } _)

theorem storeKey_writes (key : Nat) (s : State) : ContestWrites s (storeKey key s) :=
  (ContestWrite.round (by rfl) (by cases s.round.body <;> rfl)).chain

/-! ## What every write keeps -/

/-- What the events of a contest keep of the device: everything outside the contest; labels
and team states; presence; the receiving side of the lines; message texts and last-LIVE orders. No seat is bound and no
round begins. -/
structure ContestKeeps (s t : State) : Prop where
  outside : t.outsideContest = s.outsideContest
  label (x : TeamNo) : (t.team x).label = (s.team x).label
  state (x : TeamNo) : (t.team x).state = (s.team x).state
  presence (i : SeatNo) : (t.seat i).presence = (s.seat i).presence
  countdown (i : SeatNo) : (t.seat i).countdown = (s.seat i).countdown
  bound (i : SeatNo) (x : TeamNo) (h : (t.seat i).team = some x) : (s.seat i).team = some x
  receiving (n : LineNo) : { t.line n with flow := none, entries := [], sending := none } =
    { s.line n with flow := none, entries := [], sending := none }
  message (b : BoardNo) : (t.board b).message = (s.board b).message
  lastLive (b : BoardNo) : (t.board b).lastLive = (s.board b).lastLive
  active (h : t.roundActive = true) : s.roundActive = true

theorem ContestKeeps.refl (s : State) : ContestKeeps s s :=
  ⟨rfl, fun _ => rfl, fun _ => rfl, fun _ => rfl, fun _ => rfl, fun _ _ h => h, fun _ => rfl, fun _ => rfl, fun _ => rfl,
    id⟩

theorem ContestKeeps.trans (h : ContestKeeps s t) (k : ContestKeeps t u) : ContestKeeps s u :=
  ⟨k.outside.trans h.outside, fun x => (k.label x).trans (h.label x), fun x => (k.state x).trans (h.state x),
    fun i => (k.presence i).trans (h.presence i), fun i => (k.countdown i).trans (h.countdown i),
    fun i x e => h.bound i x (k.bound i x e), fun n => (k.receiving n).trans (h.receiving n),
    fun b => (k.message b).trans (h.message b), fun b => (k.lastLive b).trans (h.lastLive b),
    fun e => h.active (k.active e)⟩

/-- A write of the fields that the frame leaves free. -/
theorem ContestKeeps.of_rest (houtside : t.outsideContest = s.outsideContest) (hteams : t.teams = s.teams)
    (hseats : t.seats = s.seats) (hlines : t.lines = s.lines) (hboards : t.boards = s.boards)
    (hactive : t.roundActive = true → s.roundActive = true) : ContestKeeps s t where
  outside := houtside
  label x := by rw [State.team, State.team, hteams]
  state x := by rw [State.team, State.team, hteams]
  presence i := by rw [State.seat, State.seat, hseats]
  countdown i := by rw [State.seat, State.seat, hseats]
  bound i x h := by rw [State.seat, hseats] at h; exact h
  receiving n := by rw [State.line, State.line, hlines]
  message b := by rw [State.board, State.board, hboards]
  lastLive b := by rw [State.board, State.board, hboards]
  active := hactive

theorem ContestKeeps.of_score (houtside : t.outsideScores = s.outsideScores)
    (hlabel : ∀ x, (t.team x).label = (s.team x).label) (hstate : ∀ x, (t.team x).state = (s.team x).state)
    (hboards : ∀ b, (t.board b).message = (s.board b).message ∧ (t.board b).lastLive = (s.board b).lastLive) :
    ContestKeeps s t where
  outside := State.outsideContest_of_scores houtside
  label := hlabel
  state := hstate
  presence i := by rw [State.seat_of_scores houtside]
  countdown i := by rw [State.seat_of_scores houtside]
  bound i x h := by rwa [State.seat_of_scores houtside] at h
  receiving n := by rw [State.line_of_scores houtside]
  message b := (hboards b).1
  lastLive b := (hboards b).2
  active h := by rwa [State.roundActive_of_scores houtside] at h

theorem ContestKeeps.of_writeScore (x : TeamNo) (record : Team) (hlabel : record.label = (s.team x).label)
    (hstate : record.state = (s.team x).state) : ContestKeeps s (writeScore x record s) := by
  refine .of_score (writeScore_frame s x record) (fun y => ?_) (fun y => ?_) fun b => ?_
  · obtain ⟨rank, h⟩ := writeScore_team s x record y
    rw [h]; dsimp only; split
    · next e => rw [e, hlabel]
    · rfl
  · obtain ⟨rank, h⟩ := writeScore_team s x record y
    rw [h]; dsimp only; split
    · next e => rw [e, hstate]
    · rfl
  · obtain ⟨hmessage, hlive, -⟩ := writeScore_board_keeps s x record b
    exact ⟨hmessage, hlive⟩

theorem State.polledTeam_keeps (s : State) (key : Nat) (x : TeamNo) :
    (s.polledTeam key x).label = (s.team x).label ∧ (s.polledTeam key x).state = (s.team x).state ∧
      (s.polledTeam key x).locked = (s.team x).locked := by
  unfold State.polledTeam
  dsimp only
  split <;> exact ⟨rfl, rfl, rfl⟩

theorem ContestWrite.keeps (h : ContestWrite s t) : ContestKeeps s t := by
  cases h with
  | lamp i v =>
    refine ⟨lampWrite_contest s i v, fun x => by rw [lampWrite_team], fun x => by rw [lampWrite_team], fun j => ?_,
      fun j => ?_, fun j x hx => ?_, fun n => ?_, fun b => ?_, fun b => ?_, fun h => by rwa [lampWrite_roundActive] at h⟩
    · rw [lampWrite_seat]; split
      · next e => rw [e]
      · rfl
    · rw [lampWrite_seat]; split
      · next e => rw [e]
      · rfl
    · rw [lampWrite_seat] at hx; split at hx
      · next e => rw [e]; exact hx
      · exact hx
    · rw [lampWrite_line]; split <;> rfl
    · rw [State.board, State.board, lampWrite_boards]
    · rw [State.board, State.board, lampWrite_boards]
  | notice | clock | ladder | entry => exact .of_rest rfl rfl rfl rfl rfl id
  | lockTeam x =>
    refine ⟨rfl, fun y => ?_, fun y => ?_, fun _ => rfl, fun _ => rfl, fun _ _ h => h, fun _ => rfl, fun _ => rfl,
      fun _ => rfl, id⟩ <;> rw [State.setTeam_team] <;> split
    · next e => rw [e]
    · rfl
    · next e => rw [e]
    · rfl
  | lockSeat i locked =>
    refine ⟨rfl, fun _ => rfl, fun _ => rfl, fun j => ?_, fun j => ?_, fun j x h => ?_, fun _ => rfl, fun _ => rfl,
      fun _ => rfl, id⟩
    · rw [State.setSeat_seat]; split
      · next e => rw [e]
      · rfl
    · rw [State.setSeat_seat]; split
      · next e => rw [e]
      · rfl
    · rw [State.setSeat_seat] at h; split at h
      · next e => rw [e]; exact h
      · exact h
  | unbind i =>
    refine ⟨rfl, fun _ => rfl, fun _ => rfl, fun j => ?_, fun j => ?_, fun j x h => ?_, fun _ => rfl, fun _ => rfl,
      fun _ => rfl, id⟩
    · rw [State.setSeat_seat]; split
      · next e => rw [e]
      · rfl
    · rw [State.setSeat_seat]; split
      · next e => rw [e]
      · rfl
    · rw [State.setSeat_seat] at h; split at h
      · cases h
      · exact h
  | round hactive => exact .of_rest rfl rfl rfl rfl rfl fun h => hactive.symm.trans h
  | close o =>
    exact ⟨closeRound_frame s o, fun x => by rw [closeRound_team], fun x => by rw [closeRound_team],
      fun i => by rw [closeRound_seat], fun i => by rw [closeRound_seat], fun i x h => by rwa [closeRound_seat] at h,
      fun n => by rw [closeRound_line], fun b => (closeRound_board_keeps s o b).1,
      fun b => (closeRound_board_keeps s o b).2, fun h => by rw [closeRound_roundActive] at h; cases h⟩
  | right x => exact .of_writeScore x _ rfl rfl
  | wrong x => exact .of_writeScore x _ rfl rfl
  | poll key =>
    refine .of_score (scorePoll_frame s key) (fun x => ?_) (fun x => ?_) fun b => ?_
    · obtain ⟨rank, h⟩ := scorePoll_team s key x
      rw [h]; exact (s.polledTeam_keeps key x).1
    · obtain ⟨rank, h⟩ := scorePoll_team s key x
      rw [h]; exact (s.polledTeam_keeps key x).2.1
    · obtain ⟨hmessage, hlive, -⟩ := scorePoll_board_keeps s key b
      exact ⟨hmessage, hlive⟩

theorem ContestWrites.keeps (h : ContestWrites s t) : ContestKeeps s t := by
  induction h with
  | refl => exact .refl s
  | tail _ hlast ih => exact ih.trans hlast.keeps

/-- The end of an event reaches the transmitting side of the lines alone. -/
theorem endEvent_keeps (before t : State) : ContestKeeps t (endEvent before t) where
  outside := State.outsideContest_of_lines (endEvent_frame before t)
  label x := by rw [endEvent_team]
  state x := by rw [endEvent_team]
  presence i := by rw [endEvent_seat]
  countdown i := by rw [endEvent_seat]
  bound i x h := by rwa [endEvent_seat] at h
  receiving n := by rw [endEvent_line]; split <;> exact Line.kick_receiving _
  message b := by rw [endEvent_board]
  lastLive b := by rw [endEvent_board]
  active h := by rwa [State.roundActive, endEvent_round] at h

end Sys2Proof.Machine
end

section
/-! PROOFS. Every event as a chain of single writes, so that a predicate which each write keeps is kept by every step;
and every command completes with the queue of commands as it was. -/

namespace Sys2Proof.Machine

/-- The state but for the port's slots and flags, the rule store, the watchdog and the MODEL's counter. -/
def State.outsideAside (s : State) : State :=
  { s with requests := [], inProcess := none, answers := [], recalling := false, storing := none, freeIndex := 0
           bus := { acknowledged := [], shifted := [] }, watchdog := .unarmed
           store := { values := Vector.replicate 26 0#24, check := 0#8 } }

/-- One write of an event of the device. -/
inductive Write : State → State → Prop
  | contest {s t} (h : ContestWrite s t) : Write s t
  | aside {s t} (h : t.outsideAside = s.outsideAside) : Write s t
  | ended (before s) : Write s (endEvent before s)
  | presence (f s) : Write s (updatePresence f s)
  | housekeeping (s) : Write s (housekeepingExpiry s)
  | take {n s} (hqueued : (s.line n).queue ≠ []) : Write s (s.setLine n ((s.line n).take (s.rule Rule.holdLower)))
  | startEdge (n falseStart s) : Write s (startEdge n falseStart s)
  | gapLimit (n s) : Write s (gapLimit n s)
  | characterEnd (n char s) : Write s (characterEnd n char s)
  | frameEnd (n s) : Write s (downstreamFrameEnd n s)
  | revealPin (level s) : Write s (revealPinChange level s)
  | revealTaken (s) : Write s (revealLevelTaken s)
  | heard (s) : Write s (requestTaken s)
  | lost (s) : Write s (resolveBoards (abandonRound { s with consoleLost := true }))
  | transferEnd (b s) : Write s (transferEnd b s)
  | message (b text s) : Write s (storeMessage b text s)
  | rule (r v s) : Write s (writeRule r (clampRule (s.rule Rule.holdUpper) r v) s)
  | clear (mask s) : Write s { s with notices := s.notices &&& ~~~mask }
  | enrol {t label s} (score) (hfree : (s.team t).state = .free) (hlabel : label.length ≤ 8) :
      Write s (enrolTeam t label score s)
  | rename {t label s} (hstate : (s.team t).state ≠ .free) (hlabel : label.length ≤ 8) : Write s (renameTeam t label s)
  | bench {t s} (hactive : (s.team t).state = .active) : Write s (setTeamState t .benched s)
  | recalled {t s} (hbenched : (s.team t).state = .benched) : Write s (recallTeam t s)
  | retire {t s} (hlisted : (s.team t).state.listed = true) (hfree : ∀ i, (s.seat i).team ≠ some t) :
      Write s (updateStandings (s.setTeam t { s.team t with state := .retired, locked := false }))
  | purge {t s} (hretired : (s.team t).state = .retired) : Write s (purgeTeam t s)
  | score {t s} (wanted) (hstate : (s.team t).state ≠ .free) : Write s (changeScore t wanted s).1
  | bind {i t s} (hlisted : (s.team t).state.listed = true) (hunbound : (s.seat i).team = none)
      (hroom : s.memberCount t < 16) : Write s (s.setSeat i { s.seat i with team := some t })
  | opened {kind s} (window) (hidle : s.roundActive = false) (hkind : kind.WellFormed) :
      Write s (openRound kind (clampWindow window) s)
  | powerOn (s) : Write s (powerOn s)
  | rest {phase s} (hphase : phase = .off ∨ phase = .rest) : Write s (toRest phase s)
  | startUp (addr1 addr0 s) : Write s (startUp addr1 addr0 s)
  | startUpEnd (s) : Write s (startUpEnd s)
  | session (s) : Write s (resetSession s)

/-- A chain of writes. -/
abbrev Writes : State → State → Prop := Relation.ReflTransGen Write

variable {s t : State}

theorem Write.chain (h : Write s t) : Writes s t := .single h

theorem ContestWrites.writes (h : ContestWrites s t) : Writes s t := by
  induction h with
  | refl => exact .refl
  | tail _ hlast ih => exact ih.tail (.contest hlast)

/-! ## Unbinding -/

/-- The seat that UNBIND SEAT unbinds is unbound after it. -/
theorem unbindSeat_unbound (i : SeatNo) (s : State) : ((unbindSeat i s).seat i).team = none := by
  unfold unbindSeat
  dsimp only
  split
  · next h => exact Option.isNone_iff_eq_none.mp h
  · rw [State.setSeat_seat_same]

/-- No seat is bound to a team whose members have been unbound (R19). -/
theorem unbindMembers_unbound (x : TeamNo) (s : State) (i : SeatNo) : ((unbindMembers x s).seat i).team ≠ some x := by
  have hfold (l : List SeatNo) : ∀ s : State, ((s.seat i).team = some x → i ∈ l) →
      ((l.foldl (fun s i => unbindSeat i s) s).seat i).team ≠ some x := by
    induction l with
    | nil => intro s hmember h; exact absurd (hmember h) List.not_mem_nil
    | cons j l ih =>
      intro s hmember
      refine ih (unbindSeat j s) fun hbound => ?_
      rcases List.mem_cons.mp (hmember ((unbindSeat_writes j s).keeps.bound i x hbound)) with rfl | hi
      · rw [unbindSeat_unbound] at hbound; cases hbound
      · exact hi
  refine hfold (s.members x) s fun hbound => ?_
  simp [State.members, allSeats, hbound]

/-- The seats of a team that only loses members. -/
theorem memberCount_le (hbound : ∀ i x, (t.seat i).team = some x → (s.seat i).team = some x) (x : TeamNo) :
    t.memberCount x ≤ s.memberCount x :=
  (List.monotone_filter_right allSeats fun i h => by simpa using hbound i x (by simpa using h)).length_le

/-! ## The events as chains of writes -/

theorem windowEnd_writes (s : State) : Writes s (windowEnd s) := by
  unfold windowEnd
  split
  · next h => exact (enterSettling_writes h.2.2).writes
  · exact .refl

theorem settlingEnd_writes (s : State) : Writes s (settlingEnd s) := by
  unfold settlingEnd
  split
  · next h =>
    have hsettled : ContestWrites s (settle { s with clock := { s.clock with settlingEnd := none } }) :=
      (ContestWrite.clock _ s).chain.trans (settle_writes h.2.2)
    exact hsettled.writes.tail (.ended s _)
  · exact .refl

theorem callEvent_writes (s : State) : Writes s (callEvent s) := by
  unfold callEvent
  split
  · exact (callHead_writes s).writes.tail (.ended s _)
  · exact .refl

theorem judgeDeadlineEvent_writes (s : State) : Writes s (judgeDeadlineEvent s) := by
  unfold judgeDeadlineEvent
  split
  · split
    · next d _ =>
      have hjudged : ContestWrites s (timeOut d { s with clock := { s.clock with judgeDeadline := none } }) :=
        (ContestWrite.clock _ s).chain.trans (timeOut_writes d _)
      exact hjudged.writes.tail (.ended s _)
    · exact (ContestWrite.clock _ s).chain.writes
  · exact .refl

theorem controllerEvent_writes (s : State) : Writes s (controllerEvent s) := by
  unfold controllerEvent
  split
  · exact windowEnd_writes s
  · exact settlingEnd_writes s

theorem ladderEvent_writes (s : State) : Writes s (ladderEvent s) := by
  unfold ladderEvent
  split
  · exact callEvent_writes s
  · exact judgeDeadlineEvent_writes s

theorem takeDueEvents_writes (s : State) : Writes s (takeDueEvents s) := by
  have hcounted : Writes s { s with freeIndex := s.freeIndex + 1 } :=
    (Write.aside (s := s) (t := { s with freeIndex := s.freeIndex + 1 }) rfl).chain
  unfold takeDueEvents
  dsimp only
  split
  · split
    · exact (hcounted.trans (ladderEvent_writes _)).trans (controllerEvent_writes _)
    · exact (hcounted.trans (controllerEvent_writes _)).trans (ladderEvent_writes _)
  · exact (controllerEvent_writes s).trans (ladderEvent_writes _)

theorem roundClockStep_writes (s : State) : Writes s (roundClockStep s) := by
  unfold roundClockStep
  dsimp only
  split
  · split
    · exact (takeDueEvents_writes s).tail (.contest (.clock _ _))
    · exact takeDueEvents_writes s
  · exact .refl

theorem watchdogExpiry_writes (s : State) : Writes s (watchdogExpiry s) := by
  unfold watchdogExpiry
  split
  · split
    · have hexpired : Writes s (({ s with watchdog := .expired } : State).setNotice .consoleLost) :=
        (Write.aside (s := s) (t := { s with watchdog := .expired }) rfl).chain.tail (.contest (.notice .consoleLost _))
      dsimp only
      split
      · exact (hexpired.tail (.lost _)).tail (.ended s _)
      · exact hexpired
    · exact .refl
  · exact .refl
  · exact .refl

theorem seatTableTake_writes (n : LineNo) (s : State) : Writes s (seatTableTake n s) := by
  unfold seatTableTake
  split
  · exact .refl
  · next f _ hqueue =>
    split
    · have htaken : Writes s (updatePresence f (s.setLine n ((s.line n).take (s.rule Rule.holdLower)))) :=
        (Write.take (by rw [hqueue]; exact List.cons_ne_nil _ _)).chain.tail (.presence f _)
      exact (htaken.trans (handPress_writes f _).writes).tail (.ended s _)
    · exact .refl

theorem recallWrites_writes (m : RuleStore) (s : State) : Writes s (recallWrites m s) := by
  unfold recallWrites
  generalize List.finRange 26 = l
  induction l generalizing s with
  | nil => exact .refl
  | cons r l ih => exact (Write.rule r m.values[r].toNat s).chain.trans (ih _)

theorem finishRecall_writes (s : State) : Writes s (finishRecall s).1 := by
  unfold finishRecall
  split
  · exact (recallWrites_writes s.store s).tail (.ended s _)
  · exact .single (.contest (.notice .rulesDefaulted s))

theorem benchTeam_writes {x : TeamNo} (hactive : (s.team x).state = .active) : Writes s (benchTeam x s) :=
  (Write.bench hactive).chain.trans (dropTeamClaim_writes x _).writes

theorem retireTeam_writes {x : TeamNo} (hlisted : (s.team x).state.listed = true) : Writes s (retireTeam x s) := by
  have hcleared : ContestWrites s (unbindMembers x (dropTeamClaim x s)) :=
    (dropTeamClaim_writes x s).trans (unbindMembers_writes x _)
  exact hcleared.writes.tail (.retire (by rw [hcleared.keeps.state]; exact hlisted) (unbindMembers_unbound x _))

theorem bindSeat_writes {i : SeatNo} {x : TeamNo} (hlisted : (s.team x).state.listed = true)
    (hroom : s.memberCount x < 16) : Writes s (bindSeat i x s) := by
  have hkeeps := (unbindSeat_writes i s).keeps
  exact (unbindSeat_writes i s).writes.tail (.bind (by rw [hkeeps.state]; exact hlisted) (unbindSeat_unbound i s)
    ((memberCount_le hkeeps.bound x).trans_lt hroom))

theorem applyVerdict_writes (v : Verdict) (d : Claim) (s : State) : ContestWrites s (applyVerdict v d s) := by
  cases v with
  | right => exact judgeRight_writes d s
  | wrong => exact judgeWrong_writes d s
  | pass => exact judgePass_writes d s

/-- A board's configuration below 64 is in its rule's range. -/
theorem clampRule_boardCfg (upper : Nat) (b : BoardNo) {v : Nat} (hv : v < 64) :
    clampRule upper (Rule.boardCfg b) v = v := by
  have hcfg : Rule.boardCfg b = 22 ∨ Rule.boardCfg b = 23 := by revert b; decide
  rw [clampRule, if_pos hcfg, Nat.mod_eq_of_lt hv]

theorem writes_of_service (h : Service s t) : Writes s t := by
  cases h with
  | unchanged => exact .refl
  | clearNotices mask => exact .single (.clear mask s)
  | resetSession => exact (Write.session s).chain.tail (.ended s _)
  | enrolTeam score hfree hlabel => exact .single (.enrol score hfree hlabel)
  | renameTeam hstate hlabel => exact .single (.rename hstate hlabel)
  | benchTeam hactive => exact (benchTeam_writes hactive).tail (.ended s _)
  | recallTeam hbenched => exact .single (.recalled hbenched)
  | retireTeam hlisted => exact (retireTeam_writes hlisted).tail (.ended s _)
  | purgeTeam hretired => exact .single (.purge hretired)
  | changeScore wanted hstate => exact .single (.score wanted hstate)
  | bindSeat hlisted _ hroom => exact (bindSeat_writes hlisted hroom).tail (.ended s _)
  | unbindSeat i => exact (unbindSeat_writes i s).writes.tail (.ended s _)
  | openRound window hidle hkind => exact (Write.opened window hidle hkind).chain.tail (.ended s _)
  | closeRound hopened => exact (enterSettling_writes hopened).writes
  | abandonRound => exact (Write.contest (.close _ s)).chain.tail (.ended s _)
  | @storeKey key => exact (storeKey_writes key s).writes
  | @scoreKey key =>
    have hscored : ContestWrites s (scoreAndClose key (storeKey key s)) :=
      ((storeKey_writes key s).tail (.poll key _)).tail (.close .scored _)
    exact hscored.writes.tail (.ended s _)
  | @judge d _ v => exact (applyVerdict_writes v d s).writes.tail (.ended s _)
  | @setConfig b v _ hv =>
    have hwrite := Write.rule (Rule.boardCfg b) v s
    rw [clampRule_boardCfg _ b hv] at hwrite
    exact .single hwrite
  | setMessage b text => exact .single (.message b text s)
  | setRule r v => exact (Write.rule r v s).chain.tail (.ended s _)
  | storeRules => exact .single (.aside rfl)

/-- Every event is a chain of writes. -/
theorem writes_of_event (h : Event s t) : Writes s t := by
  cases h with
  | port h =>
    have haside : t.outsideAside = s.outsideAside := by
      have e := congrArg State.outsideAside h; exact e
    exact (Write.aside haside).chain
  | powerOn => exact .single (.powerOn s)
  | powerLoss =>
    unfold powerLoss; split
    · exact .refl
    · exact .single (.rest (.inl rfl))
  | resetPinLow =>
    unfold resetPinLow; split
    · exact .refl
    · exact .single (.rest (.inr rfl))
  | startUp addr1 addr0 => exact .single (.startUp addr1 addr0 s)
  | startUpEnd => exact .single (.startUpEnd s)
  | revealPinChange level => exact .single (.revealPin level s)
  | revealLevelTaken => exact .single (.revealTaken s)
  | storeComplete =>
    unfold storeComplete; split
    · next values _ =>
      exact (Write.aside (s := s) (t := { s with store := { values, check := storeCheck values }, storing := none })
        rfl).chain.tail (.contest (.notice .storeDone _))
    · exact .refl
  | recallFinished => exact finishRecall_writes s
  | watchdogExpiry => exact watchdogExpiry_writes s
  | startEdge n falseStart => exact .single (.startEdge n falseStart s)
  | gapLimit n => exact .single (.gapLimit n s)
  | characterEnd n char => exact .single (.characterEnd n char s)
  | seatTableTake n => exact seatTableTake_writes n s
  | housekeepingExpiry => exact .single (.housekeeping s)
  | downstreamFrameEnd n => exact .single (.frameEnd n s)
  | roundClockStep => exact roundClockStep_writes s
  | windowEnd => exact windowEnd_writes s
  | settlingEnd => exact settlingEnd_writes s
  | callEvent => exact callEvent_writes s
  | judgeDeadlineEvent => exact judgeDeadlineEvent_writes s
  | transferEnd b => exact .single (.transferEnd b s)
  | requestTaken => exact .single (.heard s)
  | service h => exact writes_of_service h

/-- A predicate that every write keeps, and that does not look at the queue of commands, is kept by every step. -/
theorem keptByStep_of_writes {inv : State → Prop} (hqueue : ∀ s p, inv s → inv { s with pending := p })
    (hwrite : ∀ s t, Write s t → inv s → inv t) : KeptByStep inv := by
  refine keptByStep_of_events hqueue fun s t hevent hs => ?_
  have hwrites := writes_of_event hevent
  clear hevent
  induction hwrites with
  | refl => exact hs
  | tail _ hlast ih => exact hwrite _ _ hlast ih

/-! ## The queue of commands -/

section
variable {s t : State}

theorem State.pending_of_contest (h : t.outsideContest = s.outsideContest) : t.pending = s.pending := by
  have e := congrArg State.pending h; exact e
theorem State.pending_of_boards (h : t.outsideBoards = s.outsideBoards) : t.pending = s.pending := by
  have e := congrArg State.pending h; exact e
theorem State.pending_of_scores (h : t.outsideScores = s.outsideScores) : t.pending = s.pending := by
  have e := congrArg State.pending h; exact e
theorem State.pending_of_reception (h : t.outsideReception = s.outsideReception) : t.pending = s.pending := by
  have e := congrArg State.pending h; exact e
theorem State.pending_of_lines (h : t.outsideLines = s.outsideLines) : t.pending = s.pending := by
  have e := congrArg State.pending h; exact e
theorem State.pending_of_rules (h : t.outsideRules = s.outsideRules) : t.pending = s.pending := by
  have e := congrArg State.pending h; exact e
theorem State.pending_of_aside (h : t.outsideAside = s.outsideAside) : t.pending = s.pending := by
  have e := congrArg State.pending h; exact e

end

theorem storeMessage_frame (b : BoardNo) (text : List Byte) (s : State) :
    (storeMessage b text s).outsideBoards = s.outsideBoards := by
  unfold storeMessage
  dsimp only
  split
  · exact sendImage_frame _ _ _
  · rfl

theorem revealLevelTaken_frame (s : State) :
    (revealLevelTaken s).outsideBoards = State.outsideBoards { s with reveal := (revealLevelTaken s).reveal } := by
  unfold revealLevelTaken
  split
  · have hreveal := congrArg State.reveal (resolveBoards_frame { s with reveal := { s.reveal with taken := s.reveal.pin } })
    have hframe := resolveBoards_frame { s with reveal := { s.reveal with taken := s.reveal.pin } }
    generalize resolveBoards { s with reveal := { s.reveal with taken := s.reveal.pin } } = u at hreveal hframe ⊢
    have hu : u.reveal = { s.reveal with taken := s.reveal.pin } := hreveal
    rw [hu]
    exact hframe
  · rfl

theorem abandonRound_frame (s : State) : (abandonRound s).outsideContest = s.outsideContest := by
  unfold abandonRound
  split
  · exact closeRound_frame s _
  · rfl

theorem resetBoard_frame (b : BoardNo) (s : State) : (resetBoard b s).outsideBoards = s.outsideBoards := by
  unfold resetBoard
  dsimp only
  split
  · exact (resolveBoard_frame _ b).trans rfl
  · exact (takeStandingsChange_frame _ b).trans ((resolveBoard_frame _ b).trans rfl)

theorem pending_of_write (h : Write s t) : t.pending = s.pending := by
  cases h with
  | contest h => exact State.pending_of_contest h.keeps.outside
  | aside h => exact State.pending_of_aside h
  | ended before => exact State.pending_of_lines (endEvent_frame before s)
  | presence f => exact State.pending_of_contest (updatePresence_frame s f)
  | housekeeping => exact State.pending_of_contest (housekeepingExpiry_frame s)
  | take | revealPin | clear | bench | recalled | purge | bind => rfl
  | startEdge n b => exact State.pending_of_lines (startEdge_frame s n b)
  | gapLimit n => exact State.pending_of_reception (gapLimit_frame s n)
  | characterEnd n c => exact State.pending_of_reception (characterEnd_frame s n c)
  | frameEnd n => exact State.pending_of_lines (downstreamFrameEnd_frame s n)
  | revealTaken => exact (State.pending_of_boards (revealLevelTaken_frame s)).trans rfl
  | heard => exact (State.pending_of_boards (requestTaken_frame s)).trans rfl
  | lost =>
    exact (State.pending_of_boards (resolveBoards_frame _)).trans ((State.pending_of_contest (abandonRound_frame { s with consoleLost := true })).trans rfl)
  | transferEnd b => exact State.pending_of_boards (transferEnd_frame s b)
  | message b text => exact State.pending_of_boards (storeMessage_frame b text s)
  | rule r v => exact State.pending_of_rules (writeRule_frame s r _)
  | enrol => exact (State.pending_of_scores (updateStandings_frame _)).trans rfl
  | rename =>
    unfold renameTeam; dsimp only; split
    · exact (State.pending_of_scores (updateStandings_frame _)).trans rfl
    · rfl
  | retire => exact (State.pending_of_scores (updateStandings_frame _)).trans rfl
  | score => exact State.pending_of_scores (writeScore_frame s _ _)
  | opened => exact State.pending_of_contest (openRound_frame s _ _)
  | powerOn => unfold powerOn; split <;> rfl
  | rest => unfold toRest abandonStore; split <;> rfl
  | startUp => unfold startUp; split <;> rfl
  | startUpEnd =>
    unfold startUpEnd; split
    · exact (State.pending_of_boards (enterMode_frame _ 1 _)).trans
        ((State.pending_of_boards (enterMode_frame _ 0 _)).trans rfl)
    · rfl
  | session =>
    exact (State.pending_of_boards (resetBoard_frame 1 _)).trans
      ((State.pending_of_boards (resetBoard_frame 0 _)).trans rfl)

/-- Settles O2: a command is a chain of events, and so of writes, none of which touches the queue. -/
theorem everyCommandCompletes : Obligations.EveryCommandCompletes := by
  intro i s
  obtain ⟨t, hexec, hevents⟩ := exec_eq_events i s
  refine ⟨t, hexec, ?_⟩
  clear hexec
  have hwrites {s t : State} (h : Writes s t) : t.pending = s.pending := by
    induction h with
    | refl => rfl
    | tail _ hlast ih => exact (pending_of_write hlast).trans ih
  induction hevents with
  | refl => rfl
  | tail _ hlast ih => exact (hwrites (writes_of_event hlast)).trans ih

end Sys2Proof.Machine
end

section
/-! PROOFS. Every step keeps the ranges of the team records and the last awards (R1, R2), of the working rules (R196) and of
the notice word (R183). -/

namespace Sys2Proof.Machine

variable {s t : State}

/-! ## What the remaining shared operations leave -/

/-- The state but for what a presence write reaches: seats and notices. -/
def State.outsidePresence (s : State) : State :=
  { s with seats := Vector.replicate 128 Seat.initial, notices := 0#24 }

/-- The state but for what the write of a rule reaches: rules, lines, boards and watchdog. -/
def State.outsideRuleWrites (s : State) : State :=
  { s with rules := Rules.default, lines := Vector.replicate 4 Line.initial
           boards := Vector.replicate 2 Board.initial, watchdog := .unarmed }

theorem updatePresence_outside (f : SeatFrame) (s : State) :
    (updatePresence f s).outsidePresence = s.outsidePresence := by
  unfold updatePresence writePresence
  dsimp only
  split <;> split <;> rfl

theorem housekeepingExpiry_outside (s : State) : (housekeepingExpiry s).outsidePresence = s.outsidePresence := by
  unfold housekeepingExpiry
  dsimp only
  split
  · split <;> rfl
  · rfl

theorem State.outsideRuleWrites_of_boards (h : t.outsideBoards = s.outsideBoards) :
    t.outsideRuleWrites = s.outsideRuleWrites := by
  have e := congrArg State.outsideRuleWrites h; exact e

theorem writeRule_outside (r : RuleId) (v : Nat) (s : State) :
    (writeRule r v s).outsideRuleWrites = s.outsideRuleWrites := by
  unfold writeRule
  dsimp only
  split
  case h_6 => unfold applyThresholds lowerFollows; split <;> rfl
  case h_11 => exact (State.outsideRuleWrites_of_boards (resolveBoard_frame _ 0)).trans rfl
  case h_12 => exact (State.outsideRuleWrites_of_boards (resolveBoard_frame _ 1)).trans rfl
  all_goals rfl

/-- RESET SESSION at the boards is all that it does beside its direct writes (R205). -/
theorem resetSession_spec (s : State) :
    (resetSession s).outsideBoards = State.outsideBoards { s with
      teams := s.teams.map fun _ => Team.initial
      seats := s.seats.map fun x => { x with team := none, locked := false, lamp := .idle }
      round := Round.initial, clock := Clock.initial, ladder := [], sheet := Vector.replicate 128 none
      standings := [], notices := 0#24, watchdog := .unarmed, consoleLost := false
      lines := Vector.ofFn fun n => if s.lineEnabled n then (s.line n).sessionReset else s.line n } :=
  (resetBoard_frame 1 _).trans ((resetBoard_frame 0 _).trans rfl)

/-- The raised CONSOLE_LOST condition closes an active round, and leaves any other (R92). -/
theorem abandonRound_eq (s : State) :
    abandonRound s = if s.roundActive = true then closeRound .abandoned s else s := rfl

theorem startUpEnd_outside (s : State) :
    (startUpEnd s).outsideRuleWrites = State.outsideRuleWrites { s with phase := (startUpEnd s).phase } := by
  have hphase {u v : State} (h : u.outsideBoards = v.outsideBoards) : u.phase = v.phase := State.phase_of_boards h
  unfold startUpEnd
  split
  · have hstart := (enterMode_frame (startBoard 0 (queueMarks .closed { s with phase := .running })) 1
        ((startBoard 0 (queueMarks .closed { s with phase := .running })).resolvedMode 1)).trans
      (enterMode_frame (queueMarks .closed { s with phase := .running }) 0
        ((queueMarks .closed { s with phase := .running }).resolvedMode 0))
    have hrunning : (startBoard 1 (startBoard 0 (queueMarks .closed { s with phase := .running }))).phase = .running :=
      State.phase_of_boards hstart
    have hrest := State.outsideRuleWrites_of_boards hstart
    change (startBoard 1 (startBoard 0 (queueMarks .closed { s with phase := .running }))).outsideRuleWrites =
      State.outsideRuleWrites { s with
        phase := (startBoard 1 (startBoard 0 (queueMarks .closed { s with phase := .running }))).phase }
    rw [hrunning]
    exact hrest.trans rfl
  · rfl

/-- The state but for the boards, the watchdog and the CONSOLE_LOST condition, which a request's taking reaches. -/
theorem heard_team (s : State) (x : TeamNo) : (requestTaken s).team x = s.team x :=
  (State.team_of_boards (requestTaken_frame s) x).trans rfl

/-! ## The record of one team -/

/-- A last award of the Scorer, in the range of R1 under the rule copy of the round. -/
def AwardBounded (s : State) (award : Int) : Prop :=
  (∀ body ∈ s.round.body, body.copy.InRange) → -1000 ≤ award ∧ award ≤ 4000

/-- What a write can make of a team record. -/
inductive RecordStep (s : State) : Team → Team → Prop
  | kept (x state locked rank) : RecordStep s x { x with state, locked, rank }
  | awarded {x award} (rewarded rank) (h : AwardBounded s award) : RecordStep s x { x.award award rewarded with rank }
  | scored (x wanted rank) : RecordStep s x { x with score := clampScore wanted, rank }
  | enrolled {label : List Byte} (x wanted rank) (h : label.length ≤ 8) : RecordStep s x
      { Team.initial with state := .active, label := label.map printable, score := clampScore wanted, rank }
  | renamed {label : List Byte} (x rank) (h : label.length ≤ 8) : RecordStep s x { x with label := label.map printable, rank }
  | cleared (x locked rank) : RecordStep s x { Team.initial with locked, rank }

theorem RecordStep.refl (s : State) (x : Team) : RecordStep s x x := .kept x x.state x.locked x.rank

theorem RecordStep.of_eq {x y : Team} (h : y = x) : RecordStep s x y := h ▸ .refl s x

theorem RecordStep.initial (s : State) (x : Team) : RecordStep s x Team.initial := .cleared x false none

/-- The rule copy that awards are reckoned by is in range, also where no round is there. -/
theorem copy_bounds (h : ∀ body ∈ s.round.body, body.copy.InRange) :
    s.copy.buzzRight ≤ 1000 ∧ s.copy.buzzWrong ≤ 1000 ∧ s.copy.pollBase ≤ 1000 ∧ s.copy.pollSpeed ≤ 1000 ∧
      s.copy.pollWrong ≤ 1000 ∧ s.copy.streakCap ≤ 4 := by
  unfold State.copy
  cases hbody : s.round.body with
  | none => simp [RuleCopy.zero]
  | some body =>
    obtain ⟨h1, h2, h3, h4, h5, h6, -⟩ := h body hbody
    exact ⟨h1, h2, h3, h4, h5, h6⟩

/-- The quarters at most double an amount (R141). -/
theorem multiplied_le {amount limit streak cap : Nat} (ha : amount ≤ limit) (hcap : cap ≤ 4) :
    multiplied amount (quarters streak cap) ≤ 2 * limit := by
  have hq : quarters streak cap ≤ 8 := by unfold quarters; omega
  have hmul : amount * quarters streak cap ≤ limit * 8 := Nat.mul_le_mul ha hq
  unfold multiplied
  omega

theorem rightAward_bounded (s : State) (streak : Nat) : AwardBounded s (rightAward s.copy streak) := by
  intro h
  obtain ⟨hright, -, -, -, -, hcap⟩ := copy_bounds h
  have := multiplied_le (streak := streak) hright hcap
  unfold rightAward
  omega

theorem wrongAward_bounded (s : State) : AwardBounded s (-(s.copy.buzzWrong : Int)) := by
  intro h
  obtain ⟨-, hwrong, -⟩ := copy_bounds h
  omega

/-! ## POLL awards (R145 to R149) -/

/-- An answered seat earns between −1000 and 2000 points, and a seat without an answer none (R145). -/
theorem seatPoints_bounds (h : ∀ body ∈ s.round.body, body.copy.InRange) (key : Nat) (i : SeatNo) :
    (s.entry i).isSome = false ∧ s.seatPoints key i = 0 ∨
      (s.entry i).isSome = true ∧ -1000 ≤ s.seatPoints key i ∧ s.seatPoints key i ≤ 2000 := by
  obtain ⟨-, -, hbase, hspeed, hwrong, -⟩ := copy_bounds h
  unfold State.seatPoints
  cases s.entry i with
  | none => exact .inl ⟨rfl, rfl⟩
  | some e =>
    refine .inr ⟨rfl, ?_⟩
    have hbonus : s.copy.pollSpeed * (s.window - min e.offset s.window) / s.window ≤ s.copy.pollSpeed := by
      rcases Nat.eq_zero_or_pos s.window with h0 | hpos
      · rw [h0, Nat.div_zero]; exact Nat.zero_le _
      · exact Nat.div_le_of_le_mul (by rw [Nat.mul_comm]; exact Nat.mul_le_mul_right _ (Nat.sub_le _ _))
    dsimp only
    unfold entryPoints
    generalize s.copy.pollSpeed * (s.window - min e.offset s.window) / s.window = bonus at hbonus ⊢
    split
    · split <;> omega
    · omega

/-- The sum of some seats' points lies within the points of as many answered seats. -/
theorem pointSum_bounds (h : ∀ body ∈ s.round.body, body.copy.InRange) (key : Nat) (p : SeatNo → Bool)
    (hp : ∀ i, (s.entry i).isSome = true → p i = true) (l : List SeatNo) :
    -1000 * ((l.filter p).length : Int) ≤ (l.map (s.seatPoints key)).sum ∧
      (l.map (s.seatPoints key)).sum ≤ 2000 * ((l.filter p).length : Int) := by
  induction l with
  | nil => simp
  | cons i l ih =>
    have hpoints := seatPoints_bounds h key i
    rw [List.map_cons, List.sum_cons, List.filter_cons]
    cases hpi : p i with
    | true => simp only [if_true, List.length_cons]; push_cast; omega
    | false =>
      have hnone : (s.entry i).isSome = false := by
        cases hi : (s.entry i).isSome with
        | false => rfl
        | true => rw [hp i hi] at hpi; cases hpi
      simp only [hnone, Bool.false_eq_true, false_and, or_false, true_and] at hpoints
      simp only [Bool.false_eq_true, if_false]
      omega

/-- A mean lies within the bounds of what it is taken of (R147). -/
theorem roundedMean_bounds {sum : Int} {d low high : Nat} (hlow : -(low : Int) * d ≤ sum) (hhigh : sum ≤ (high : Int) * d) :
    -(low : Int) ≤ roundedMean sum d ∧ roundedMean sum d ≤ high := by
  unfold roundedMean
  split
  · omega
  · next hd =>
    have hpos : 0 < 2 * d := by omega
    split
    · next hsum =>
      have hnat : sum.natAbs ≤ high * d := by zify; rw [abs_of_nonneg hsum]; exact hhigh
      have : (2 * sum.natAbs + d) / (2 * d) ≤ high := by
        rw [Nat.div_le_iff_le_mul_add_pred hpos]
        have : 2 * (high * d) = 2 * d * high := by ring
        omega
      generalize (2 * sum.natAbs + d) / (2 * d) = mean at this ⊢
      omega
    · next hsum =>
      have hnat : sum.natAbs ≤ low * d := by
        zify; rw [abs_of_neg (by omega)]; linarith
      have : (2 * sum.natAbs + d) / (2 * d) ≤ low := by
        rw [Nat.div_le_iff_le_mul_add_pred hpos]
        have : 2 * (low * d) = 2 * d * low := by ring
        omega
      generalize (2 * sum.natAbs + d) / (2 * d) = mean at this ⊢
      omega

theorem pollAward_bounded (s : State) (key : Nat) (x : TeamNo) (streak : Nat) :
    AwardBounded s (pollAward (s.teamTotal key x) streak s.copy.streakCap) := by
  intro h
  obtain ⟨-, -, -, -, -, hcap⟩ := copy_bounds h
  obtain ⟨hlow, hhigh⟩ := pointSum_bounds h key (fun i => (s.seat i).presence = .present || (s.entry i).isSome)
    (fun i hi => by simp [hi]) (s.members x)
  have hmean : -1000 ≤ s.teamTotal key x ∧ s.teamTotal key x ≤ 2000 :=
    roundedMean_bounds (low := 1000) (high := 2000) hlow hhigh
  unfold pollAward
  split
  · have := multiplied_le (streak := streak) (show (s.teamTotal key x).natAbs ≤ 2000 by omega) hcap
    omega
  · omega

/-! ## One write, one record -/

theorem writeScore_record {x y : TeamNo} {record : Team} (h : ∀ rank, RecordStep s (s.team x) { record with rank }) :
    RecordStep s (s.team y) ((writeScore x record s).team y) := by
  obtain ⟨rank, hteam⟩ := writeScore_team s x record y
  rw [hteam]
  split
  · next e => rw [e]; exact h rank
  · exact .kept (s.team y) _ _ rank

theorem updateStandings_setTeam_record {x y : TeamNo} {record : Team}
    (h : ∀ rank, RecordStep s (s.team x) { record with rank }) :
    RecordStep s (s.team y) ((updateStandings (s.setTeam x record)).team y) := by
  rw [updateStandings_team, State.setTeam_team]
  split
  · next e => rw [e]; exact h _
  · exact .kept (s.team y) _ _ _

theorem setTeam_record {x y : TeamNo} {record : Team} (h : RecordStep s (s.team x) record) :
    RecordStep s (s.team y) ((s.setTeam x record).team y) := by
  rw [State.setTeam_team]
  split
  · next e => rw [e]; exact h
  · exact .refl s _

theorem record_of_contestWrite (h : ContestWrite s t) (y : TeamNo) : RecordStep s (s.team y) (t.team y) := by
  cases h with
  | lamp i v => exact .of_eq (lampWrite_team s i v y)
  | notice | clock | ladder | entry | lockSeat | unbind | round => exact .refl s _
  | lockTeam x => exact setTeam_record (.kept _ _ true _)
  | close o => rw [closeRound_team]; exact .kept _ _ false _
  | right x => exact writeScore_record fun rank => .awarded true rank (rightAward_bounded s _)
  | wrong x => exact writeScore_record fun rank => .awarded false rank (wrongAward_bounded s)
  | poll key =>
    obtain ⟨rank, hteam⟩ := scorePoll_team s key y
    rw [hteam, State.polledTeam]
    dsimp only
    split
    · exact .awarded _ rank (pollAward_bounded s key y _)
    · exact .kept _ _ _ rank

theorem record_of_write (h : Write s t) (y : TeamNo) : RecordStep s (s.team y) (t.team y) := by
  cases h with
  | contest h => exact record_of_contestWrite h y
  | aside h =>
    have e := congrArg (State.team · y) h
    exact .of_eq e
  | ended before => exact .of_eq (endEvent_team s before y)
  | presence f =>
    have e := congrArg (State.team · y) (updatePresence_outside f s)
    exact .of_eq e
  | housekeeping =>
    have e := congrArg (State.team · y) (housekeepingExpiry_outside s)
    exact .of_eq e
  | take | revealPin | clear | bind => exact .refl s _
  | startEdge n b =>
    have e := congrArg (State.team · y) (startEdge_frame s n b)
    exact .of_eq e
  | gapLimit n =>
    have e := congrArg (State.team · y) (gapLimit_frame s n)
    exact .of_eq e
  | characterEnd n c =>
    have e := congrArg (State.team · y) (characterEnd_frame s n c)
    exact .of_eq e
  | frameEnd n =>
    have e := congrArg (State.team · y) (downstreamFrameEnd_frame s n)
    exact .of_eq e
  | revealTaken => exact .of_eq ((State.team_of_boards (revealLevelTaken_frame s) y).trans rfl)
  | heard => exact .of_eq (heard_team s y)
  | lost =>
    rw [resolveBoards_team, abandonRound_eq]
    split
    · rw [closeRound_team]; exact .kept _ _ false _
    · exact .refl s _
  | transferEnd b => exact .of_eq (State.team_of_boards (transferEnd_frame s b) y)
  | message b text => exact .of_eq (State.team_of_boards (storeMessage_frame b text s) y)
  | rule r v =>
    have e := congrArg (State.team · y) (writeRule_outside r (clampRule (s.rule Rule.holdUpper) r v) s)
    exact .of_eq e
  | enrol score _ hlabel => exact updateStandings_setTeam_record fun rank => .enrolled _ score rank hlabel
  | rename _ hlabel =>
    unfold renameTeam; dsimp only; split
    · exact updateStandings_setTeam_record fun rank => .renamed _ rank hlabel
    · exact setTeam_record (.renamed _ _ hlabel)
  | bench => exact setTeam_record (.kept _ .benched _ _)
  | recalled => exact setTeam_record (.kept _ .active _ _)
  | retire => exact updateStandings_setTeam_record fun rank => .kept _ .retired false rank
  | purge => exact setTeam_record (.cleared _ _ _)
  | score wanted => exact writeScore_record fun rank => .scored _ wanted rank
  | @opened kind _ window =>
    rw [State.team_of_boards (openRound_spec s kind (clampWindow window)) y]
    simpa [State.team] using RecordStep.kept (s := s) (s.team y) _ false _
  | powerOn => unfold powerOn; split <;> exact .refl s _
  | rest => unfold toRest abandonStore; split <;> exact .refl s _
  | startUp =>
    unfold startUp; split
    · simpa [State.team, State.powerOnValues] using RecordStep.initial s (s.team y)
    · exact .refl s _
  | startUpEnd =>
    have e := congrArg (State.team · y) (startUpEnd_outside s)
    exact .of_eq e
  | session =>
    rw [State.team_of_boards (resetSession_spec s) y]
    simpa [State.team] using RecordStep.initial s (s.team y)

theorem clampScore_inRange (v : Int) : -9999 ≤ clampScore v ∧ clampScore v ≤ 99999 := by
  unfold clampScore; split
  · omega
  · split <;> omega

theorem printable_inRange (c : Byte) : 0x20#8 ≤ printable c ∧ printable c ≤ 0x7E#8 := by
  unfold printable; split
  · assumption
  · decide

theorem map_printable_inRange (label : List Byte) : ∀ c ∈ label.map printable, 0x20#8 ≤ c ∧ c ≤ 0x7E#8 := by
  intro c hc
  obtain ⟨d, -, rfl⟩ := List.mem_map.mp hc
  exact printable_inRange d

theorem RecordStep.inRange {x y : Team} (h : RecordStep s x y) (hx : x.InRange) : y.InRange := by
  obtain ⟨hlow, hhigh, hstreak, hlength, hchars⟩ := hx
  cases h with
  | kept => exact ⟨hlow, hhigh, hstreak, hlength, hchars⟩
  | @awarded _ _ rewarded =>
    refine ⟨(clampScore_inRange _).1, (clampScore_inRange _).2, ?_, hlength, hchars⟩
    change (if rewarded then min 99 (x.streak + 1) else 0) ≤ 99
    split <;> omega
  | scored wanted => exact ⟨(clampScore_inRange _).1, (clampScore_inRange _).2, hstreak, hlength, hchars⟩
  | @enrolled label _ wanted _ hlabel =>
    exact ⟨(clampScore_inRange _).1, (clampScore_inRange _).2, Nat.zero_le _, by simpa using hlabel,
      map_printable_inRange label⟩
  | @renamed label _ _ hlabel => exact ⟨hlow, hhigh, hstreak, by simpa using hlabel, map_printable_inRange label⟩
  | cleared => simp [Team.InRange, Team.initial]

theorem RecordStep.award_bounded {x y : Team} (h : RecordStep s x y) (hcopy : ∀ body ∈ s.round.body, body.copy.InRange)
    (hx : ∀ award ∈ x.lastAward, -1000 ≤ award ∧ award ≤ 4000) :
    ∀ award ∈ y.lastAward, -1000 ≤ award ∧ award ≤ 4000 := by
  cases h with
  | kept | scored | renamed => exact hx
  | awarded rewarded rank h =>
    rintro award ⟨⟩
    exact h hcopy
  | enrolled | cleared => rintro award ⟨⟩

/-! ## The working rules (R196, R197) -/

/-- What the write of a rule leaves of every rule (R197). -/
theorem writeRule_rule (r : RuleId) (v : Nat) (s : State) (q : RuleId) :
    (writeRule r v s).rule q =
      if q = r then v
      else if q = Rule.holdLower ∧ r = Rule.holdUpper ∧ v ≤ s.rule Rule.holdLower then v - 1 else s.rule q := by
  have hset : (s.setRuleValue r v).rule q = if q = r then v else s.rule q := State.setRuleValue_rule s r q v
  have hrule : r ≠ Rule.holdUpper → (writeRule r v s).rule q = (s.setRuleValue r v).rule q := fun hr => by
    unfold writeRule
    dsimp only
    split
    case h_6 hval => exact absurd (Fin.ext hval) hr
    case h_11 => exact State.rule_of_boards (resolveBoard_frame _ 0) q
    case h_12 => exact State.rule_of_boards (resolveBoard_frame _ 1) q
    all_goals rfl
  by_cases hr : r = Rule.holdUpper
  · subst hr
    have hwrite : (writeRule Rule.holdUpper v s).rule q = (lowerFollows (s.setRuleValue Rule.holdUpper v)).rule q := rfl
    have hupper : (s.setRuleValue Rule.holdUpper v).rule Rule.holdUpper = v := State.setRuleValue_rule_same _ _ _
    have hlower : (s.setRuleValue Rule.holdUpper v).rule Rule.holdLower = s.rule Rule.holdLower :=
      State.setRuleValue_rule_of_ne _ _ _ _ (by decide)
    rw [hwrite, lowerFollows, hupper, hlower]
    by_cases hv : v ≤ s.rule Rule.holdLower
    · rw [if_pos hv, State.setRuleValue_rule, hset]
      by_cases hq : q = Rule.holdLower
      · subst hq; simp [hv, show Rule.holdLower ≠ Rule.holdUpper by decide]
      · simp [hq]
    · rw [if_neg hv, hset]; simp [hv]
  · rw [hrule hr, hset]; simp [hr]

/-- Only the range of HOLD_LOWER looks at HOLD_UPPER (R196). -/
theorem ruleHigh_of_ne {r : RuleId} (h : r ≠ Rule.holdLower) (upper upper' : Nat) :
    ruleHigh upper r = ruleHigh upper' r := by
  unfold Rule.holdLower at h
  unfold ruleHigh
  fin_cases r
  pick_goal 19
  · exact absurd rfl h
  all_goals rfl

theorem ruleHigh_holdLower (upper : Nat) : ruleHigh upper Rule.holdLower = upper - 1 := rfl

theorem ruleLow_le_ruleHigh (upper : Nat) (r : RuleId) : ruleLow r ≤ ruleHigh upper r := by
  by_cases hr : r = Rule.holdLower
  · subst hr; exact Nat.zero_le _
  · rw [ruleHigh_of_ne hr upper 2]; revert r; decide

theorem clampRule_inRange (upper : Nat) (r : RuleId) (v : Nat) :
    ruleLow r ≤ clampRule upper r v ∧ clampRule upper r v ≤ ruleHigh upper r := by
  unfold clampRule
  split
  · next hcfg =>
    have := Nat.mod_lt v (show 0 < 64 by decide)
    rcases hcfg with rfl | rfl
    · exact ⟨Nat.zero_le _, Nat.le_of_lt_succ this⟩
    · exact ⟨Nat.zero_le _, Nat.le_of_lt_succ this⟩
  · have := ruleLow_le_ruleHigh upper r
    unfold clampNat
    split
    · omega
    · split <;> omega

/-- HOLD_UPPER's range does not look at the standing value (R196). -/
theorem clampRule_holdUpper_inRange (upper v : Nat) :
    2 ≤ clampRule upper Rule.holdUpper v ∧ clampRule upper Rule.holdUpper v ≤ 16 := by
  have h : clampRule upper Rule.holdUpper v = clampRule 2 Rule.holdUpper v := by
    unfold clampRule
    rw [ruleHigh_of_ne (by decide) upper 2]
  rw [h]
  exact clampRule_inRange 2 Rule.holdUpper v

theorem RulesInRange.holdUpper (h : RulesInRange s) : 2 ≤ s.rule Rule.holdUpper ∧ s.rule Rule.holdUpper ≤ 16 :=
  h Rule.holdUpper

theorem RulesInRange.holdLower (h : RulesInRange s) : s.rule Rule.holdLower < s.rule Rule.holdUpper := by
  have hupper := h.holdUpper
  have hlower := (h Rule.holdLower).2
  rw [ruleHigh_holdLower] at hlower
  omega

/-- The write of a clamped value keeps every rule in its range, HOLD_LOWER following HOLD_UPPER (R197). -/
theorem writeRule_inRange (h : RulesInRange s) (r : RuleId) (v : Nat) :
    RulesInRange (writeRule r (clampRule (s.rule Rule.holdUpper) r v) s) := by
  have hupper := h.holdUpper
  have hlower := h.holdLower
  intro q
  simp only [writeRule_rule]
  by_cases hr : r = Rule.holdUpper
  · subst hr
    obtain ⟨hlow, hhigh⟩ := clampRule_holdUpper_inRange (s.rule Rule.holdUpper) v
    generalize clampRule (s.rule Rule.holdUpper) Rule.holdUpper v = w at hlow hhigh ⊢
    rw [if_pos rfl]
    by_cases hq : q = Rule.holdUpper
    · subst hq; rw [if_pos rfl]; exact ⟨hlow, hhigh⟩
    · rw [if_neg hq]
      by_cases hq' : q = Rule.holdLower
      · subst hq'
        rw [ruleHigh_holdLower]
        refine ⟨Nat.zero_le _, ?_⟩
        split
        · exact Nat.le_refl _
        · next hnot => simp only [true_and, not_le] at hnot; omega
      · rw [if_neg fun hand => hq' hand.1, ruleHigh_of_ne hq' w (s.rule Rule.holdUpper)]
        exact h q
  · have hstands : (if Rule.holdUpper = r then clampRule (s.rule Rule.holdUpper) r v
        else if Rule.holdUpper = Rule.holdLower ∧ r = Rule.holdUpper ∧ clampRule (s.rule Rule.holdUpper) r v ≤
          s.rule Rule.holdLower then clampRule (s.rule Rule.holdUpper) r v - 1 else s.rule Rule.holdUpper) =
        s.rule Rule.holdUpper := by
      rw [if_neg (Ne.symm hr), if_neg fun hand => hr hand.2.1]
    rw [hstands]
    by_cases hq : q = r
    · subst hq; rw [if_pos rfl]; exact clampRule_inRange _ q v
    · rw [if_neg hq, if_neg fun hand => hr hand.2.1]; exact h q

theorem loadedRules_getElem (m : RuleStore) (r : RuleId) :
    (loadedRules m)[r] =
      clampRule (clampRule 0 Rule.holdUpper m.values[Rule.holdUpper].toNat) r m.values[r].toNat := by
  simp [loadedRules]

/-- A board's configuration and HOLD_UPPER are clamped the same whatever HOLD_UPPER stands. -/
theorem clampRule_of_ne {r : RuleId} (h : r ≠ Rule.holdLower) (upper upper' v : Nat) :
    clampRule upper r v = clampRule upper' r v := by
  unfold clampRule
  rw [ruleHigh_of_ne h upper upper']

theorem default_inRange (r : RuleId) :
    ruleLow r ≤ Rules.default[r] ∧ Rules.default[r] ≤ ruleHigh Rules.default[Rule.holdUpper] r := by
  revert r; decide

/-- The rules that a start-up loads: of a good store each value in its range, the defaults otherwise (R204). -/
def startRules (m : RuleStore) : Rules := if m.good then loadedRules m else Rules.default

theorem startRules_inRange (m : RuleStore) (r : RuleId) :
    ruleLow r ≤ (startRules m)[r] ∧ (startRules m)[r] ≤ ruleHigh (startRules m)[Rule.holdUpper] r := by
  unfold startRules
  split
  · rw [loadedRules_getElem, loadedRules_getElem, clampRule_of_ne (by decide) _ 0 m.values[Rule.holdUpper].toNat]
    exact clampRule_inRange _ r _
  · exact default_inRange r

theorem rules_of_contestWrite (h : ContestWrite s t) : t.rules = s.rules := by
  have e := congrArg State.rules h.keeps.outside; exact e

/-- The working rules are written by the write of a rule and by start-up alone. -/
theorem rules_of_write (h : Write s t) : t.rules = s.rules ∨ t.rules = startRules s.store ∨
    ∃ r v, t.rules = (writeRule r (clampRule (s.rule Rule.holdUpper) r v) s).rules := by
  cases h with
  | contest h => exact .inl (rules_of_contestWrite h)
  | aside h =>
    have e := congrArg State.rules h
    exact .inl e
  | ended before =>
    have e := congrArg State.rules (endEvent_frame before s)
    exact .inl e
  | presence f =>
    have e := congrArg State.rules (updatePresence_outside f s)
    exact .inl e
  | housekeeping =>
    have e := congrArg State.rules (housekeepingExpiry_outside s)
    exact .inl e
  | take | revealPin | clear | bind | bench | recalled | purge => exact .inl rfl
  | startEdge n b =>
    have e := congrArg State.rules (startEdge_frame s n b)
    exact .inl e
  | gapLimit n =>
    have e := congrArg State.rules (gapLimit_frame s n)
    exact .inl e
  | characterEnd n c =>
    have e := congrArg State.rules (characterEnd_frame s n c)
    exact .inl e
  | frameEnd n =>
    have e := congrArg State.rules (downstreamFrameEnd_frame s n)
    exact .inl e
  | revealTaken => exact .inl ((State.rules_of_boards (revealLevelTaken_frame s)).trans rfl)
  | heard => exact .inl ((State.rules_of_boards (requestTaken_frame s)).trans rfl)
  | lost =>
    have e := congrArg State.rules (abandonRound_frame { s with consoleLost := true })
    exact .inl ((State.rules_of_boards (resolveBoards_frame _)).trans e)
  | transferEnd b => exact .inl (State.rules_of_boards (transferEnd_frame s b))
  | message b text => exact .inl (State.rules_of_boards (storeMessage_frame b text s))
  | rule r v => exact .inr (.inr ⟨r, v, rfl⟩)
  | enrol => exact .inl (updateStandings_rules _)
  | rename =>
    unfold renameTeam; dsimp only; split
    · exact .inl (updateStandings_rules _)
    · exact .inl rfl
  | retire => exact .inl (updateStandings_rules _)
  | score => exact .inl (writeScore_rules s _ _)
  | @opened kind _ window =>
    exact .inl ((State.rules_of_boards (openRound_spec s kind (clampWindow window))).trans rfl)
  | powerOn => unfold powerOn; split <;> exact .inl rfl
  | rest => unfold toRest abandonStore; split <;> exact .inl rfl
  | startUp =>
    unfold startUp; split
    · exact .inr (.inl rfl)
    · exact .inl rfl
  | startUpEnd =>
    unfold startUpEnd; split
    · exact .inl ((State.rules_of_boards (enterMode_frame _ 1 _)).trans
        ((State.rules_of_boards (enterMode_frame _ 0 _)).trans rfl))
    · exact .inl rfl
  | session => exact .inl ((State.rules_of_boards (resetSession_spec s)).trans rfl)

theorem RulesInRange.of_eq (h : RulesInRange s) (hrules : t.rules = s.rules) : RulesInRange t := by
  intro r
  rw [State.rule, State.rule, hrules]
  exact h r

theorem rulesInRange_of_write (h : Write s t) (hs : RulesInRange s) : RulesInRange t := by
  rcases rules_of_write h with hsame | hstart | ⟨r, v, hwritten⟩
  · exact hs.of_eq hsame
  · intro r
    rw [State.rule, State.rule, hstart]
    exact startRules_inRange s.store r
  · exact (writeRule_inRange hs r v).of_eq hwritten

/-! ## The round's rule copy (R80) -/

/-- The copy of rules in range is in range. -/
theorem takeCopy_inRange (h : RulesInRange s) : s.takeCopy.InRange :=
  ⟨(h Rule.buzzRight).2, (h Rule.buzzWrong).2, (h Rule.pollBase).2, (h Rule.pollSpeed).2, (h Rule.pollWrong).2,
    (h Rule.streakCap).2, (h Rule.callSettle).2, (h Rule.judgeWindow).1, (h Rule.judgeWindow).2,
    (h Rule.earlyPolicy).2, (h Rule.timeoutAs).2, (h Rule.answerLock).2⟩

/-- What a write can make of the round's rule copy. -/
def CopyStep (s t : State) : Prop :=
  t.round.body.map (·.copy) = s.round.body.map (·.copy) ∨ t.round.body = none ∨
    t.round.body.map (·.copy) = some s.takeCopy

theorem CopyStep.of_round (h : t.round = s.round) : CopyStep s t := .inl (by rw [h])

theorem copyStep_of_contestWrite (h : ContestWrite s t) : CopyStep s t := by
  cases h with
  | lamp i v => exact .of_round (lampWrite_round s i v)
  | notice | clock | ladder | entry | lockSeat | unbind | lockTeam => exact .of_round rfl
  | round _ hcopy => exact .inl hcopy
  | close => exact .inl (by rw [closeRound_round])
  | right x => exact .of_round (writeScore_round s _ _)
  | wrong x => exact .of_round (writeScore_round s _ _)
  | poll key => exact .of_round (scorePoll_round s key)

theorem copyStep_of_write (h : Write s t) : CopyStep s t := by
  cases h with
  | contest h => exact copyStep_of_contestWrite h
  | aside h =>
    have e := congrArg State.round h
    exact .of_round e
  | ended before =>
    have e := congrArg State.round (endEvent_frame before s)
    exact .of_round e
  | presence f =>
    have e := congrArg State.round (updatePresence_outside f s)
    exact .of_round e
  | housekeeping =>
    have e := congrArg State.round (housekeepingExpiry_outside s)
    exact .of_round e
  | take | revealPin | clear | bind | bench | recalled | purge => exact .of_round rfl
  | startEdge n b =>
    have e := congrArg State.round (startEdge_frame s n b)
    exact .of_round e
  | gapLimit n =>
    have e := congrArg State.round (gapLimit_frame s n)
    exact .of_round e
  | characterEnd n c =>
    have e := congrArg State.round (characterEnd_frame s n c)
    exact .of_round e
  | frameEnd n =>
    have e := congrArg State.round (downstreamFrameEnd_frame s n)
    exact .of_round e
  | revealTaken => exact .of_round ((State.round_of_boards (revealLevelTaken_frame s)).trans rfl)
  | heard => exact .of_round ((State.round_of_boards (requestTaken_frame s)).trans rfl)
  | lost =>
    refine .inl ?_
    rw [State.round_of_boards (resolveBoards_frame _), abandonRound_eq]
    split
    · rw [closeRound_round]
    · rfl
  | transferEnd b => exact .of_round (State.round_of_boards (transferEnd_frame s b))
  | message b text => exact .of_round (State.round_of_boards (storeMessage_frame b text s))
  | rule r v =>
    have e := congrArg State.round (writeRule_outside r (clampRule (s.rule Rule.holdUpper) r v) s)
    exact .of_round e
  | enrol => exact .of_round (updateStandings_round _)
  | rename =>
    unfold renameTeam; dsimp only; split
    · exact .of_round (updateStandings_round _)
    · exact .of_round rfl
  | retire => exact .of_round (updateStandings_round _)
  | score => exact .of_round (writeScore_round s _ _)
  | @opened kind _ window =>
    refine .inr (.inr ?_)
    rw [State.round_of_boards (openRound_spec s kind (clampWindow window))]
    rfl
  | powerOn => unfold powerOn; split <;> exact .of_round rfl
  | rest => unfold toRest abandonStore; split <;> exact .of_round rfl
  | startUp =>
    unfold startUp; split
    · exact .inr (.inl rfl)
    · exact .of_round rfl
  | startUpEnd =>
    have e := congrArg State.round (startUpEnd_outside s)
    exact .of_round e
  | session => exact .inr (.inl ((congrArg Round.body (State.round_of_boards (resetSession_spec s))).trans rfl))

theorem CopyStep.inRange (h : CopyStep s t) (hrules : RulesInRange s) (hs : ∀ body ∈ s.round.body, body.copy.InRange) :
    ∀ body ∈ t.round.body, body.copy.InRange := by
  intro body hbody
  have hcopy : t.round.body.map (·.copy) = some body.copy := by rw [hbody]; rfl
  rcases h with hsame | hnone | hopened
  · obtain ⟨old, hold, hcopies⟩ := Option.map_eq_some_iff.mp (hsame ▸ hcopy)
    exact hcopies ▸ hs old hold
  · rw [hnone] at hbody; cases hbody
  · rw [hopened] at hcopy
    exact Option.some.inj hcopy ▸ takeCopy_inRange hrules

/-! ## The notice word (R183) -/

theorem Notice.mask_lt (k : Notice) : k.mask.toNat < 2 ^ 17 := by
  cases k with
  | lineOverrun n => revert n; decide
  | lineGarble n => revert n; decide
  | _ => decide

theorem NoticesBounded.of_eq (h : NoticesBounded s) (hnotices : t.notices = s.notices) : NoticesBounded t := by
  unfold NoticesBounded; rw [hnotices]; exact h

theorem NoticesBounded.or_mask (h : NoticesBounded s) (k : Notice) (ht : t.notices = s.notices ||| k.mask) :
    NoticesBounded t := by
  unfold NoticesBounded
  rw [ht, BitVec.toNat_or]
  exact Nat.or_lt_two_pow h k.mask_lt

theorem NoticesBounded.setNotice (h : NoticesBounded s) (k : Notice) : NoticesBounded (s.setNotice k) := h.or_mask k rfl

theorem placeFrame_noticesBounded (n : LineNo) (f : SeatFrame) (h : NoticesBounded s) :
    NoticesBounded (placeFrame n f s) := by
  unfold placeFrame
  dsimp only
  split
  · exact h
  · exact NoticesBounded.or_mask h (.lineOverrun n) rfl

theorem assemble_noticesBounded (n : LineNo) (c : Byte) (clock : Nat) (stopped : Bool) (h : NoticesBounded s) :
    NoticesBounded (assemble n c clock stopped s) := by
  unfold assemble
  dsimp only
  split
  · split
    · exact NoticesBounded.or_mask h (.lineGarble n) rfl
    · exact h
  · split
    · exact h
    · split
      · split
        · exact placeFrame_noticesBounded n _ h
        · exact NoticesBounded.or_mask h (.lineGarble n) rfl
      · exact h

theorem endEvent_noticesBounded (before : State) (h : NoticesBounded s) : NoticesBounded (endEvent before s) := by
  have e := congrArg State.notices (endEvent_frame before s)
  exact h.of_eq e

theorem noticesBounded_of_contestWrite (h : ContestWrite s t) (hs : NoticesBounded s) : NoticesBounded t := by
  cases h with
  | lamp i v => exact hs.of_eq (lampWrite_notices s i v)
  | notice k => exact hs.setNotice k
  | clock | ladder | entry | lockSeat | unbind | lockTeam | round => exact hs
  | close o => exact hs.or_mask .roundClosed (closeRound_notices s o)
  | right x => exact hs.of_eq (writeScore_notices s _ _)
  | wrong x => exact hs.of_eq (writeScore_notices s _ _)
  | poll key => exact hs.of_eq (scorePoll_notices s key)

theorem noticesBounded_of_write (h : Write s t) (hs : NoticesBounded s) : NoticesBounded t := by
  cases h with
  | contest h => exact noticesBounded_of_contestWrite h hs
  | aside h =>
    have e := congrArg State.notices h
    exact hs.of_eq e
  | ended before => exact endEvent_noticesBounded before hs
  | presence f =>
    unfold updatePresence writePresence
    dsimp only
    split
    · split
      · exact hs
      · exact NoticesBounded.or_mask hs .seatChange rfl
    · split
      · exact hs
      · exact NoticesBounded.or_mask hs .seatChange rfl
    · split
      · exact hs
      · exact NoticesBounded.or_mask hs .seatChange rfl
  | housekeeping =>
    unfold housekeepingExpiry
    dsimp only
    split
    · split
      · exact NoticesBounded.or_mask hs .seatChange rfl
      · exact hs
    · exact hs
  | take | revealPin | bind | bench | recalled | purge => exact hs
  | clear mask =>
    unfold NoticesBounded
    rw [BitVec.toNat_and]
    exact Nat.lt_of_le_of_lt Nat.and_le_left hs
  | startEdge n b => unfold startEdge; split <;> exact hs
  | gapLimit n =>
    unfold gapLimit
    split
    · exact NoticesBounded.or_mask hs (.lineGarble n) rfl
    · exact hs
  | characterEnd n c =>
    unfold characterEnd
    split
    · split
      · exact endEvent_noticesBounded s (assemble_noticesBounded n c _ _ hs)
      · exact hs
    · exact hs
  | frameEnd n => unfold downstreamFrameEnd; split <;> exact hs
  | revealTaken => exact hs.of_eq ((State.notices_of_boards (revealLevelTaken_frame s)).trans rfl)
  | heard => exact hs.of_eq ((State.notices_of_boards (requestTaken_frame s)).trans rfl)
  | lost =>
    have habandoned : NoticesBounded (abandonRound { s with consoleLost := true }) := by
      rw [abandonRound_eq]
      split
      · exact NoticesBounded.or_mask hs .roundClosed (closeRound_notices _ _)
      · exact hs
    exact habandoned.of_eq (State.notices_of_boards (resolveBoards_frame _))
  | transferEnd b => exact hs.of_eq (State.notices_of_boards (transferEnd_frame s b))
  | message b text => exact hs.of_eq (State.notices_of_boards (storeMessage_frame b text s))
  | rule r v =>
    have e := congrArg State.notices (writeRule_outside r (clampRule (s.rule Rule.holdUpper) r v) s)
    exact hs.of_eq e
  | enrol => exact hs.of_eq (updateStandings_notices _)
  | rename =>
    unfold renameTeam; dsimp only; split
    · exact hs.of_eq (updateStandings_notices _)
    · exact hs
  | retire => exact hs.of_eq (updateStandings_notices _)
  | score => exact hs.of_eq (writeScore_notices s _ _)
  | @opened kind _ window => exact hs.of_eq ((State.notices_of_boards (openRound_spec s kind (clampWindow window))).trans rfl)
  | powerOn => unfold powerOn; split <;> exact hs
  | rest => unfold toRest abandonStore; split <;> exact hs
  | startUp =>
    unfold startUp; split
    · unfold NoticesBounded State.powerOnValues
      dsimp only
      split <;> decide
    · exact hs
  | startUpEnd =>
    have e := congrArg State.notices (startUpEnd_outside s)
    exact hs.of_eq e
  | session =>
    unfold NoticesBounded
    rw [State.notices_of_boards (resetSession_spec s)]
    exact Nat.zero_lt_succ _

/-- Settles O5: what a write makes of a record, of a rule, of the rule copy and of the notice word keeps its range. -/
theorem rangesAreKept : Obligations.RangesAreKept :=
  ⟨keptByStep_of_writes (fun _ _ h => h) fun _ _ h hs x => (record_of_write h x).inRange (hs x),
    keptByStep_of_writes (fun _ _ h => h) fun _ _ => rulesInRange_of_write,
    keptByStep_of_writes (fun _ _ h => h) fun _ _ => noticesBounded_of_write,
    keptByStep_of_writes (fun _ _ h => h) fun _ _ h ⟨hrules, hcopy, hawards⟩ =>
      ⟨rulesInRange_of_write h hrules, (copyStep_of_write h).inRange hrules hcopy,
        fun x => (record_of_write h x).award_bounded hcopy (hawards x)⟩⟩

end Sys2Proof.Machine
end

section
/-! PROOFS. Every step keeps the silence countdowns of the seats (R23, R27) and their bindings (R3, R8, R35). -/

namespace Sys2Proof.Machine

variable {s t : State}

/-! ## The record of one seat -/

/-- What a write other than a bind can make of a seat record. -/
inductive SeatStep (s : State) (x : Seat) : Seat → Prop
  | kept {team} (locked lamp) (hteam : ∀ y, team = some y → x.team = some y) : SeatStep s x { x with team, locked, lamp }
  | present : SeatStep s x { x with presence := .present, countdown := s.rule Rule.silenceLimit }
  | absent : SeatStep s x { x with presence := .absent, countdown := 0 }
  | ticked : SeatStep s x x.tick
  | initial : SeatStep s x Seat.initial

theorem SeatStep.of_eq {x y : Seat} (h : y = x) : SeatStep s x y := by
  subst h
  exact .kept (team := y.team) y.locked y.lamp fun _ h => h

/-- A write of seat `i` in the step of that seat, seen at any seat. -/
theorem setSeat_step (i j : SeatNo) {x : Seat} (h : SeatStep s (s.seat i) x) :
    SeatStep s (s.seat j) ((s.setSeat i x).seat j) := by
  rw [State.setSeat_seat]
  split
  · next e => subst e; exact h
  · exact .of_eq rfl

theorem updatePresence_step (f : SeatFrame) (j : SeatNo) : SeatStep s (s.seat j) ((updatePresence f s).seat j) := by
  have hwritten (presence countdown) (h : SeatStep s (s.seat f.seat) { s.seat f.seat with presence, countdown }) :
      SeatStep s (s.seat j) ((writePresence f.seat presence countdown s).seat j) := by
    unfold writePresence
    dsimp only
    split <;> exact setSeat_step f.seat j h
  unfold updatePresence
  split
  · exact hwritten _ _ .absent
  · exact hwritten _ _ .present
  · exact hwritten _ _ .present

theorem housekeepingExpiry_step (j : SeatNo) : SeatStep s (s.seat j) ((housekeepingExpiry s).seat j) := by
  have hticked : SeatStep s (s.seat j) ((s.mapSeats Seat.tick).seat j) := by
    rw [State.mapSeats_seat]; exact .ticked
  unfold housekeepingExpiry
  dsimp only
  split
  · split <;> exact hticked
  · exact .of_eq rfl

theorem seat_of_contestWrite (h : ContestWrite s t) (j : SeatNo) : SeatStep s (s.seat j) (t.seat j) := by
  cases h with
  | lamp i v =>
    rw [lampWrite_seat]
    split
    · next e => subst e; exact .kept _ v fun _ h => h
    · exact .of_eq rfl
  | notice | clock | ladder | entry | lockTeam | round => exact .of_eq rfl
  | lockSeat i locked => exact setSeat_step i j (.kept locked _ fun _ h => h)
  | unbind i => exact setSeat_step i j (.kept _ _ fun _ h => nomatch h)
  | close o => rw [closeRound_seat]; exact .kept _ _ fun _ h => h
  | right x => exact .of_eq (writeScore_seat s _ _ j)
  | wrong x => exact .of_eq (writeScore_seat s _ _ j)
  | poll key => exact .of_eq (scorePoll_seat s key j)

/-- A write is a bind within the rule of R35, or one of the steps above at every seat. -/
theorem seat_of_write (h : Write s t) :
    (∃ i x, (s.team x).state.listed = true ∧ (s.seat i).team = none ∧ s.memberCount x < 16 ∧
      t = s.setSeat i { s.seat i with team := some x }) ∨ ∀ j, SeatStep s (s.seat j) (t.seat j) := by
  have hframe (view : State → State) (hseat : ∀ u j, (view u).seat j = u.seat j) (e : view t = view s) :
      ∀ j, SeatStep s (s.seat j) (t.seat j) := fun j =>
    .of_eq ((hseat t j).symm.trans ((congrArg (State.seat · j) e).trans (hseat s j)))
  have hboards (e : t.outsideBoards = s.outsideBoards) : ∀ j, SeatStep s (s.seat j) (t.seat j) := fun j =>
    .of_eq (State.seat_of_boards e j)
  cases h with
  | contest h => exact .inr (seat_of_contestWrite h)
  | aside h => exact .inr (hframe State.outsideAside (fun _ _ => rfl) h)
  | ended before => exact .inr (hframe State.outsideLines (fun _ _ => rfl) (endEvent_frame before s))
  | presence f => exact .inr (updatePresence_step f)
  | housekeeping => exact .inr housekeepingExpiry_step
  | take | revealPin | clear | bench | recalled | purge => exact .inr fun _ => .of_eq rfl
  | startEdge n b => exact .inr (hframe State.outsideLines (fun _ _ => rfl) (startEdge_frame s n b))
  | gapLimit n => exact .inr (hframe State.outsideReception (fun _ _ => rfl) (gapLimit_frame s n))
  | characterEnd n c => exact .inr (hframe State.outsideReception (fun _ _ => rfl) (characterEnd_frame s n c))
  | frameEnd n => exact .inr (hframe State.outsideLines (fun _ _ => rfl) (downstreamFrameEnd_frame s n))
  | revealTaken => exact .inr fun j => .of_eq ((State.seat_of_boards (revealLevelTaken_frame s) j).trans rfl)
  | heard => exact .inr fun j => .of_eq ((State.seat_of_boards (requestTaken_frame s) j).trans rfl)
  | lost =>
    refine .inr fun j => ?_
    rw [resolveBoards_seat, abandonRound_eq]
    split
    · rw [closeRound_seat]; exact .kept _ _ fun _ h => h
    · exact .of_eq rfl
  | transferEnd b => exact .inr (hboards (transferEnd_frame s b))
  | message b text => exact .inr (hboards (storeMessage_frame b text s))
  | rule r v => exact .inr (hframe State.outsideRuleWrites (fun _ _ => rfl) (writeRule_outside r (clampRule (s.rule Rule.holdUpper) r v) s))
  | enrol => exact .inr fun j => .of_eq (updateStandings_seat _ j)
  | rename =>
    unfold renameTeam; dsimp only; split
    · exact .inr fun j => .of_eq (updateStandings_seat _ j)
    · exact .inr fun _ => .of_eq rfl
  | retire => exact .inr fun j => .of_eq (updateStandings_seat _ j)
  | score => exact .inr fun j => .of_eq (writeScore_seat s _ _ j)
  | @bind i x _ hlisted hunbound hroom => exact .inl ⟨i, x, hlisted, hunbound, hroom, rfl⟩
  | @opened kind _ window =>
    refine .inr fun j => ?_
    rw [State.seat_of_boards (openRound_spec s kind (clampWindow window)) j]
    simpa [State.seat] using SeatStep.kept (s := s) (x := s.seat j) (team := (s.seat j).team) false .idle fun _ h => h
  | powerOn => unfold powerOn; split <;> exact .inr fun _ => .of_eq rfl
  | rest => unfold toRest abandonStore; split <;> exact .inr fun _ => .of_eq rfl
  | startUp =>
    unfold startUp; split
    · exact .inr fun j => by simpa [State.seat, State.powerOnValues] using SeatStep.initial
    · exact .inr fun _ => .of_eq rfl
  | startUpEnd =>
    refine .inr fun j => ?_
    have e := congrArg (State.seat · j) (startUpEnd_outside s)
    exact .of_eq e
  | session =>
    refine .inr fun j => ?_
    rw [State.seat_of_boards (resetSession_spec s) j]
    simpa [State.seat] using SeatStep.kept (s := s) (x := s.seat j) (team := none) false .idle fun _ h => nomatch h

/-! ## Countdowns (R23, R27) -/

theorem SeatStep.countdown {x y : Seat} (h : SeatStep s x y) (hrules : RulesInRange s) (hx : x.CountdownInRange) :
    y.CountdownInRange := by
  cases h with
  | kept => exact hx
  | present =>
    unfold Seat.CountdownInRange
    rw [if_pos rfl]
    obtain ⟨hlow, hhigh⟩ := hrules Rule.silenceLimit
    exact ⟨Nat.le_trans (show 1 ≤ ruleLow Rule.silenceLimit by decide) hlow, hhigh⟩
  | absent | initial => rfl
  | ticked =>
    unfold Seat.CountdownInRange at hx ⊢
    unfold Seat.tick
    by_cases hpresent : x.presence = .present
    · rw [if_pos hpresent] at hx ⊢
      by_cases hlast : x.countdown - 1 = 0
      · simp [hlast]
      · simp [hlast]; omega
    · rw [if_neg hpresent, if_neg hpresent]
      rwa [if_neg hpresent] at hx

/-- Settles O10. -/
theorem countdownsStayInRange : Obligations.CountdownsStayInRange :=
  keptByStep_of_writes (fun _ _ h => h) fun _ _ h ⟨hrules, hcount⟩ => by
    refine ⟨rulesInRange_of_write h hrules, fun j => ?_⟩
    rcases seat_of_write h with ⟨i, x, -, -, -, rfl⟩ | hstep
    · rw [State.setSeat_seat]
      split
      · next e => subst e; exact hcount j
      · exact hcount j
    · exact (hstep j).countdown hrules (hcount j)

/-! ## Bindings (R3, R8, R35) -/

theorem SeatStep.bound {x y : Seat} (h : SeatStep s x y) {n : TeamNo} (hy : y.team = some n) : x.team = some n := by
  cases h with
  | kept _ _ hteam => exact hteam n hy
  | present | absent => exact hy
  | initial => cases hy
  | ticked => unfold Seat.tick at hy; split at hy <;> exact hy

/-- A listed team stays listed by a write that leaves some seat bound to it: only a retirement, a start-up and a reset of
the session take a team off, and they leave it no seat. -/
theorem listed_of_write (h : Write s t) (x : TeamNo) (hlisted : (s.team x).state.listed = true) :
    (t.team x).state.listed = true ∨ ∀ j, (t.seat j).team ≠ some x := by
  have hsame (e : (t.team x).state = (s.team x).state) :
      (t.team x).state.listed = true ∨ ∀ j, (t.seat j).team ≠ some x := .inl (e ▸ hlisted)
  have hframe (view : State → State) (hteam : ∀ u, (view u).team x = u.team x) (e : view t = view s) :
      (t.team x).state.listed = true ∨ ∀ j, (t.seat j).team ≠ some x :=
    hsame (congrArg Team.state ((hteam t).symm.trans ((congrArg (State.team · x) e).trans (hteam s))))
  have hset {y : TeamNo} {record : Team} (hrecord : y = x → record.state.listed = true) :
      ((s.setTeam y record).team x).state.listed = true := by
    rw [State.setTeam_team]
    split
    · next e => exact hrecord e.symm
    · exact hlisted
  cases h with
  | contest h => exact hsame (h.keeps.state x)
  | aside h => exact hframe State.outsideAside (fun _ => rfl) h
  | ended before => exact hframe State.outsideLines (fun _ => rfl) (endEvent_frame before s)
  | presence f => exact hframe State.outsidePresence (fun _ => rfl) (updatePresence_outside f s)
  | housekeeping => exact hframe State.outsidePresence (fun _ => rfl) (housekeepingExpiry_outside s)
  | take | revealPin | clear | bind => exact .inl hlisted
  | startEdge n b => exact hframe State.outsideLines (fun _ => rfl) (startEdge_frame s n b)
  | gapLimit n => exact hframe State.outsideReception (fun _ => rfl) (gapLimit_frame s n)
  | characterEnd n c => exact hframe State.outsideReception (fun _ => rfl) (characterEnd_frame s n c)
  | frameEnd n => exact hframe State.outsideLines (fun _ => rfl) (downstreamFrameEnd_frame s n)
  | revealTaken => exact hsame (congrArg Team.state ((State.team_of_boards (revealLevelTaken_frame s) x).trans rfl))
  | heard => exact hsame (congrArg Team.state (heard_team s x))
  | lost =>
    refine hsame ?_
    rw [resolveBoards_team, abandonRound_eq]
    split
    · rw [closeRound_team]; rfl
    · rfl
  | transferEnd b => exact hsame (congrArg Team.state (State.team_of_boards (transferEnd_frame s b) x))
  | message b text => exact hsame (congrArg Team.state (State.team_of_boards (storeMessage_frame b text s) x))
  | rule r v => exact hframe State.outsideRuleWrites (fun _ => rfl) (writeRule_outside r (clampRule (s.rule Rule.holdUpper) r v) s)
  | enrol =>
    left
    unfold enrolTeam
    rw [updateStandings_team]
    exact hset fun _ => rfl
  | @rename y =>
    left
    unfold renameTeam; dsimp only; split
    · rw [updateStandings_team]; exact hset fun e => e ▸ hlisted
    · exact hset fun e => e ▸ hlisted
  | bench => exact .inl (hset fun _ => rfl)
  | recalled => exact .inl (hset fun _ => rfl)
  | @retire y _ _ hfree =>
    by_cases e : y = x
    · subst e
      exact .inr fun j => by rw [updateStandings_seat]; exact hfree j
    · left; rw [updateStandings_team]; exact hset fun e' => absurd e' e
  | purge hretired =>
    refine .inl (hset fun e => ?_)
    rw [← e, hretired] at hlisted
    cases hlisted
  | @score y =>
    obtain ⟨rank, hteam⟩ := writeScore_team s y { s.team y with score := clampScore ‹_› } x
    refine hsame ?_
    unfold changeScore
    rw [hteam]
    split
    · next e => subst e; rfl
    · rfl
  | @opened kind _ window =>
    refine hsame ?_
    rw [State.team_of_boards (openRound_spec s kind (clampWindow window)) x]
    simp [State.team]
  | powerOn => unfold powerOn; split <;> exact .inl hlisted
  | rest => unfold toRest abandonStore; split <;> exact .inl hlisted
  | startUp =>
    unfold startUp; split
    · exact .inr fun j => by simp [State.seat, State.powerOnValues, Seat.initial]
    · exact .inl hlisted
  | startUpEnd =>
    have e := congrArg (fun u => (State.team u x).state) (startUpEnd_outside s)
    exact hsame e
  | session =>
    refine .inr fun j => ?_
    rw [State.seat_of_boards (resetSession_spec s) j]
    simp [State.seat]

/-- Binding one seat adds at most one member to a team. -/
theorem memberCount_bind (i : SeatNo) (x y : TeamNo) :
    (s.setSeat i { s.seat i with team := some x }).memberCount y ≤ s.memberCount y + (if y = x then 1 else 0) := by
  have hnodup : ((s.setSeat i { s.seat i with team := some x }).members y).Nodup := (List.nodup_finRange 128).filter _
  split
  · refine (hnodup.subperm (l₂ := i :: s.members y) fun j hj => ?_).length_le
    simp only [State.members, List.mem_filter, decide_eq_true_eq, State.setSeat_seat, List.mem_cons] at hj ⊢
    obtain ⟨hmem, hbound⟩ := hj
    by_cases e : j = i
    · exact .inl e
    · rw [if_neg e] at hbound
      exact .inr ⟨hmem, hbound⟩
  · next hne =>
    refine (hnodup.subperm fun j hj => ?_).length_le
    simp only [State.members, List.mem_filter, decide_eq_true_eq, State.setSeat_seat] at hj ⊢
    obtain ⟨hmem, hbound⟩ := hj
    split at hbound
    · exact absurd (Option.some.inj hbound).symm hne
    · exact ⟨hmem, hbound⟩

theorem bindingsInOrder_of_write (h : Write s t) (hs : BindingsInOrder s) : BindingsInOrder t := by
  obtain ⟨hteams, hcount⟩ := hs
  rcases seat_of_write h with ⟨i, x, hlisted, hunbound, hroom, rfl⟩ | hstep
  · refine ⟨fun j y hbound => ?_, fun y => ?_⟩
    · rw [State.setSeat_seat] at hbound
      split at hbound
      · cases hbound; exact hlisted
      · exact hteams j y hbound
    · have hmembers := memberCount_bind (s := s) i x y
      have := hcount y
      split at hmembers
      · next e => subst e; omega
      · omega
  · have hbound j y (hy : (t.seat j).team = some y) : (s.seat j).team = some y := (hstep j).bound hy
    refine ⟨fun j y hy => ?_, fun y => (memberCount_le hbound y).trans (hcount y)⟩
    exact (listed_of_write h y (hteams j y (hbound j y hy))).resolve_right fun hfree => hfree j hy

/-- Settles O11. -/
theorem bindingsStayInOrder : Obligations.BindingsStayInOrder :=
  keptByStep_of_writes (fun _ _ h => h) fun _ _ => bindingsInOrder_of_write

end Sys2Proof.Machine
end

section
/-! PROOFS. The Standings Sorter's update puts the list and the ranks in order (R153, R154), and every step keeps them
so. -/

namespace Sys2Proof.Machine

variable {s t : State}

/-! ## The sorted list (R153) -/

/-- The order of R153: falling score, and equal scores in ascending number. -/
def ScoreBefore (score : TeamNo → Int) (x y : TeamNo) : Prop :=
  score y < score x ∨ score x = score y ∧ x < y

theorem insertByScore_perm (score : TeamNo → Int) (x : TeamNo) (l : List TeamNo) :
    (insertByScore score x l).Perm (x :: l) := by
  induction l with
  | nil => exact .refl _
  | cons u us ih =>
    unfold insertByScore
    split
    · exact .refl _
    · exact (ih.cons u).trans (.swap x u us)

/-- A team of a higher number than every team of an ordered list takes its place in it. -/
theorem insertByScore_pairwise {score : TeamNo → Int} {x : TeamNo} {l : List TeamNo}
    (hl : l.Pairwise (ScoreBefore score)) (hlast : ∀ u ∈ l, u < x) :
    (insertByScore score x l).Pairwise (ScoreBefore score) := by
  induction l with
  | nil => exact List.pairwise_singleton _ _
  | cons u us ih =>
    obtain ⟨hu, hus⟩ := List.pairwise_cons.mp hl
    unfold insertByScore
    split
    · next hhigher =>
      refine List.pairwise_cons.mpr ⟨fun v hv => ?_, hl⟩
      rcases List.mem_cons.mp hv with rfl | hv
      · exact .inl hhigher
      · rcases hu v hv with hlt | ⟨heq, -⟩
        · exact .inl (hlt.trans hhigher)
        · exact .inl (heq ▸ hhigher)
    · next hnot =>
      refine List.pairwise_cons.mpr ⟨fun v hv => ?_, ih hus fun v hv => hlast v (.tail _ hv)⟩
      rcases List.mem_cons.mp ((insertByScore_perm score x us).mem_iff.mp hv) with rfl | hv
      · rcases lt_or_eq_of_le (not_lt.mp hnot) with hlt | heq
        · exact .inl hlt
        · exact .inr ⟨heq.symm, hlast u (.head _)⟩
      · exact hu v hv

/-- Teams in ascending number, placed one after the other, make an ordered list of all of them. -/
theorem foldl_insertByScore (score : TeamNo → Int) (teams : List TeamNo) :
    ∀ l, l.Pairwise (ScoreBefore score) → (∀ u ∈ l, ∀ x ∈ teams, u < x) →
      teams.Pairwise (· < ·) →
      (teams.foldl (fun l x => insertByScore score x l) l).Pairwise (ScoreBefore score) ∧
        (teams.foldl (fun l x => insertByScore score x l) l).Perm (l ++ teams) := by
  induction teams with
  | nil => intro l hl _ _; exact ⟨hl, by simp⟩
  | cons x xs ih =>
    intro l hl hbefore hascending
    obtain ⟨hx, hxs⟩ := List.pairwise_cons.mp hascending
    have hperm := insertByScore_perm score x l
    have hlater : ∀ u ∈ insertByScore score x l, ∀ y ∈ xs, u < y := fun u hu y hy => by
      rcases List.mem_cons.mp (hperm.mem_iff.mp hu) with rfl | hu
      · exact hx y hy
      · exact hbefore u hu y (.tail _ hy)
    obtain ⟨hsorted, hsame⟩ := ih (insertByScore score x l)
      (insertByScore_pairwise hl fun u hu => hbefore u hu x (.head _)) hlater hxs
    exact ⟨hsorted, (hsame.trans (hperm.append_right xs)).trans List.perm_middle.symm⟩

theorem sortedTeams_spec (s : State) :
    (sortedTeams s).Pairwise (ScoreBefore fun x => (s.team x).score) ∧
      (sortedTeams s).Perm (allTeams.filter fun x => (s.team x).state.listed) :=
  foldl_insertByScore _ _ [] .nil (fun _ h => absurd h List.not_mem_nil)
    ((List.pairwise_lt_finRange 16).filter _)

theorem sortedTeams_nodup (s : State) : (sortedTeams s).Nodup :=
  (sortedTeams_spec s).2.nodup_iff.mpr ((List.nodup_finRange 16).filter _)

theorem mem_sortedTeams (s : State) (x : TeamNo) : x ∈ sortedTeams s ↔ (s.team x).state.listed = true := by
  rw [(sortedTeams_spec s).2.mem_iff]
  simp [allTeams]

/-- A state whose list is the sorted one of its records, with the ranks that the list gives, is in order. -/
theorem standingsInOrder_of_sorted (hscore : ∀ x, (t.team x).score = (s.team x).score)
    (hlisted : ∀ x, (t.team x).state.listed = (s.team x).state.listed) (hstandings : t.standings = sortedTeams s)
    (hrank : ∀ x, (t.team x).rank = s.rankOf x) : StandingsInOrder t := by
  unfold StandingsInOrder
  simp only [hscore, hlisted, hstandings, hrank]
  exact ⟨sortedTeams_nodup s, mem_sortedTeams s, (sortedTeams_spec s).1, fun _ => rfl⟩

/-- An update leaves the list and the ranks in order, whatever they were (R153 to R155). -/
theorem updateStandings_inOrder (s : State) : StandingsInOrder (updateStandings s) :=
  standingsInOrder_of_sorted (fun x => by rw [updateStandings_team]) (fun x => by rw [updateStandings_team])
    (updateStandings_standings s) (fun x => by rw [updateStandings_team])

/-! ## Writes that leave the list -/

/-- What the list and the ranks are made of stays: the list, who is listed, the listed scores, and the ranks. -/
def StandingsKept (s t : State) : Prop :=
  t.standings = s.standings ∧ ∀ x, (t.team x).state.listed = (s.team x).state.listed ∧
    ((s.team x).state.listed = true → (t.team x).score = (s.team x).score) ∧ (t.team x).rank = (s.team x).rank

theorem StandingsKept.inOrder (h : StandingsKept s t) (hs : StandingsInOrder s) : StandingsInOrder t := by
  obtain ⟨hstandings, hteams⟩ := h
  obtain ⟨hnodup, hmem, hpairwise, hrank⟩ := hs
  have hscore {x} (hx : x ∈ s.standings) : (t.team x).score = (s.team x).score := (hteams x).2.1 ((hmem x).mp hx)
  unfold StandingsInOrder
  rw [hstandings]
  refine ⟨hnodup, fun x => by rw [(hteams x).1]; exact hmem x, ?_, fun x => ?_⟩
  · refine hpairwise.imp_of_mem fun hx hy h => ?_
    rw [hscore hx, hscore hy]
    exact h
  · obtain ⟨hlisted, hkept, hsame⟩ := hteams x
    rw [hsame, hlisted, hrank x]
    split
    · next hx =>
      have hfilter := List.filter_congr (q := fun u => decide ((t.team x).score < (t.team u).score)) fun u hu => by
        rw [hscore hu, hkept hx]
      rw [hfilter]
    · rfl

theorem StandingsKept.of_team (hstandings : t.standings = s.standings) (hteam : ∀ x, t.team x = s.team x) :
    StandingsKept s t := ⟨hstandings, fun x => by rw [hteam]; exact ⟨rfl, fun _ => rfl, rfl⟩⟩

theorem StandingsKept.of_boards (h : t.outsideBoards = s.outsideBoards) : StandingsKept s t :=
  .of_team (State.standings_of_boards h) (State.team_of_boards h)

theorem standingsKept_setTeam {x : TeamNo} {record : Team} (hlisted : record.state.listed = (s.team x).state.listed)
    (hscore : (s.team x).state.listed = true → record.score = (s.team x).score) (hrank : record.rank = (s.team x).rank) :
    StandingsKept s (s.setTeam x record) := by
  refine ⟨rfl, fun y => ?_⟩
  rw [State.setTeam_team]
  split
  · next e => subst e; exact ⟨hlisted, hscore, hrank⟩
  · exact ⟨rfl, fun _ => rfl, rfl⟩

theorem standingsKept_closeRound (o : RoundOutcome) (s : State) : StandingsKept s (closeRound o s) :=
  ⟨closeRound_standings s o, fun x => by rw [closeRound_team]; exact ⟨rfl, fun _ => rfl, rfl⟩⟩

/-- What a write makes of the Standings: it leaves them, or it leaves them in order. -/
def StandingsStep (s t : State) : Prop := StandingsKept s t ∨ StandingsInOrder t

theorem writeScore_standings {x : TeamNo} {record : Team} (hlisted : record.state.listed = (s.team x).state.listed)
    (hrank : record.rank = (s.team x).rank) : StandingsStep s (writeScore x record s) := by
  unfold writeScore
  split
  · exact .inr (updateStandings_inOrder _)
  · next hchanged =>
    refine .inl (standingsKept_setTeam hlisted (fun hx => ?_) hrank)
    by_contra hne
    exact hchanged (by simp [scoreChanged, hlisted, hx, Ne.symm hne])

theorem scorePoll_standings (key : Nat) (s : State) : StandingsStep s (scorePoll key s) := by
  have hstate (x : TeamNo) : (s.polledTeam key x).state = (s.team x).state := by
    unfold State.polledTeam; dsimp only; split <;> rfl
  have hrank (x : TeamNo) : (s.polledTeam key x).rank = (s.team x).rank := by
    unfold State.polledTeam; dsimp only; split <;> rfl
  have hscored (x : TeamNo) : State.team { s with teams := Vector.ofFn fun t => s.polledTeam key t } x =
      s.polledTeam key x := by simp [State.team]
  unfold scorePoll
  dsimp only
  split
  · exact .inr (updateStandings_inOrder _)
  · next hnone =>
    refine .inl ⟨rfl, fun x => ?_⟩
    rw [hscored, hstate, hrank]
    refine ⟨rfl, fun hx => ?_, rfl⟩
    by_contra hne
    refine hnone (List.any_eq_true.mpr ⟨x, List.mem_finRange x, ?_⟩)
    rw [hscored]
    simp [scoreChanged, hstate, hx, Ne.symm hne]

theorem standings_of_contestWrite (h : ContestWrite s t) : StandingsStep s t := by
  cases h with
  | lamp i v => exact .inl (.of_team (lampWrite_standings s i v) (lampWrite_team s i v))
  | notice | clock | ladder | entry | lockSeat | unbind | round => exact .inl (.of_team rfl fun _ => rfl)
  | lockTeam x => exact .inl (standingsKept_setTeam rfl (fun _ => rfl) rfl)
  | close o => exact .inl (standingsKept_closeRound o s)
  | right x => exact writeScore_standings rfl rfl
  | wrong x => exact writeScore_standings rfl rfl
  | poll key => exact scorePoll_standings key s

/-- With no team listed and an empty list, the Standings are in order. -/
theorem standingsInOrder_of_none (hstandings : t.standings = []) (hteam : ∀ x, t.team x = Team.initial) :
    StandingsInOrder t := by
  unfold StandingsInOrder
  simp [hstandings, hteam, Team.initial, TeamState.listed]

theorem standings_of_write (h : Write s t) : StandingsStep s t := by
  have hframe (view : State → State) (hstandings : ∀ u, (view u).standings = u.standings)
      (hteam : ∀ u x, (view u).team x = u.team x) (e : view t = view s) : StandingsStep s t :=
    .inl (.of_team ((hstandings t).symm.trans ((congrArg State.standings e).trans (hstandings s)))
      fun x => (hteam t x).symm.trans ((congrArg (State.team · x) e).trans (hteam s x)))
  cases h with
  | contest h => exact standings_of_contestWrite h
  | aside h => exact hframe State.outsideAside (fun _ => rfl) (fun _ _ => rfl) h
  | ended before => exact .inl (.of_team (endEvent_standings s before) (endEvent_team s before))
  | presence f => exact hframe State.outsidePresence (fun _ => rfl) (fun _ _ => rfl) (updatePresence_outside f s)
  | housekeeping => exact hframe State.outsidePresence (fun _ => rfl) (fun _ _ => rfl) (housekeepingExpiry_outside s)
  | take | revealPin | clear | bind => exact .inl (.of_team rfl fun _ => rfl)
  | startEdge n b => exact hframe State.outsideLines (fun _ => rfl) (fun _ _ => rfl) (startEdge_frame s n b)
  | gapLimit n => exact hframe State.outsideReception (fun _ => rfl) (fun _ _ => rfl) (gapLimit_frame s n)
  | characterEnd n c => exact hframe State.outsideReception (fun _ => rfl) (fun _ _ => rfl) (characterEnd_frame s n c)
  | frameEnd n => exact hframe State.outsideLines (fun _ => rfl) (fun _ _ => rfl) (downstreamFrameEnd_frame s n)
  | revealTaken =>
    exact .inl (.of_team ((State.standings_of_boards (revealLevelTaken_frame s)).trans rfl)
      fun x => (State.team_of_boards (revealLevelTaken_frame s) x).trans rfl)
  | heard =>
    exact .inl (.of_team ((State.standings_of_boards (requestTaken_frame s)).trans rfl) (heard_team s))
  | lost =>
    have habandoned : StandingsKept s (abandonRound { s with consoleLost := true }) := by
      rw [abandonRound_eq]
      split
      · exact standingsKept_closeRound .abandoned { s with consoleLost := true }
      · exact .of_team rfl fun _ => rfl
    refine .inl ⟨(State.standings_of_boards (resolveBoards_frame _)).trans habandoned.1, fun x => ?_⟩
    rw [resolveBoards_team]
    exact habandoned.2 x
  | transferEnd b => exact .inl (.of_boards (transferEnd_frame s b))
  | message b text => exact .inl (.of_boards (storeMessage_frame b text s))
  | rule r v =>
    exact hframe State.outsideRuleWrites (fun _ => rfl) (fun _ _ => rfl)
      (writeRule_outside r (clampRule (s.rule Rule.holdUpper) r v) s)
  | enrol => exact .inr (updateStandings_inOrder _)
  | rename =>
    unfold renameTeam; dsimp only; split
    · exact .inr (updateStandings_inOrder _)
    · exact .inl (standingsKept_setTeam rfl (fun _ => rfl) rfl)
  | bench hactive =>
    refine .inl (standingsKept_setTeam ?_ (fun _ => rfl) rfl)
    rw [hactive]; rfl
  | recalled hbenched =>
    refine .inl (standingsKept_setTeam ?_ (fun _ => rfl) rfl)
    rw [hbenched]; rfl
  | retire => exact .inr (updateStandings_inOrder _)
  | purge hretired =>
    refine .inl (standingsKept_setTeam ?_ (fun hx => ?_) rfl)
    · rw [hretired]; rfl
    · rw [hretired] at hx; cases hx
  | score => exact writeScore_standings rfl rfl
  | @opened kind _ window =>
    have hspec := openRound_spec s kind (clampWindow window)
    refine .inl ⟨(State.standings_of_boards hspec).trans rfl, fun x => ?_⟩
    rw [State.team_of_boards hspec x]
    simp [State.team]
  | powerOn => unfold powerOn; split <;> exact .inl (.of_team rfl fun _ => rfl)
  | rest => unfold toRest abandonStore; split <;> exact .inl (.of_team rfl fun _ => rfl)
  | startUp =>
    unfold startUp; split
    · exact .inr (standingsInOrder_of_none rfl fun x => by simp [State.team, State.powerOnValues])
    · exact .inl (.of_team rfl fun _ => rfl)
  | startUpEnd =>
    have e := startUpEnd_outside s
    have hstandings := congrArg State.standings e
    exact .inl (.of_team hstandings fun x => by have h := congrArg (State.team · x) e; exact h)
  | session =>
    refine .inr (standingsInOrder_of_none ((State.standings_of_boards (resetSession_spec s)).trans rfl) fun x => ?_)
    rw [State.team_of_boards (resetSession_spec s) x]
    simp [State.team]

/-- Settles O9. -/
theorem standingsStayInOrder : Obligations.StandingsStayInOrder :=
  keptByStep_of_writes (fun _ _ h => h) fun _ _ h hs => (standings_of_write h).elim (·.inOrder hs) id

end Sys2Proof.Machine
end

section
/-! PROOFS. What each operation makes of a board, and that every step keeps the two boards in order (R158, R163 to R166). -/

namespace Sys2Proof.Machine

variable {s t u : State} {b b' : BoardNo}

/-! ## Images -/

theorem padRight_length (width : Nat) (text : List Byte) : (padRight width text).length = width := by
  simp [padRight]

/-- Every image has 256 characters (R165). -/
theorem newTransfer_length (s : State) (b : BoardNo) (k : ImageKind) : (s.newTransfer b k).image.length = 256 := by
  cases k with
  | repaint | message => exact padRight_length 256 _
  | blank => exact List.length_replicate

/-! ## The record of one board -/

/-- The bounds of a board's record, and the pending image behind a transfer in flight (R158, R163, R164). -/
def Board.Well (d : Board) : Prop :=
  d.message.length = 32 ∧ (∀ x, d.inFlight = some x → x.image.length = 256) ∧
    ∀ k, d.pending = some k → d.inFlight.isSome ∧ d.mode.image = some k

/-- A record to which a transfer is added where none was in flight, or whose pending image is that of its mode. -/
theorem Board.Well.started (h : Board.Well d) (hidle : d.inFlight = none) {x : Transfer} (hx : x.image.length = 256)
    (m : BoardMode) (v : Bool) : Board.Well { d with mode := m, inFlight := some x, orderVoid := v } := by
  obtain ⟨hmessage, -, hpending⟩ := h
  refine ⟨hmessage, fun y hy => ?_, fun k hk => ?_⟩
  · cases hy; exact hx
  · have := (hpending k hk).1
    rw [hidle] at this
    cases this

theorem Board.Well.pends (h : Board.Well d) (hbusy : d.inFlight.isSome = true) (m : BoardMode) {k : Option ImageKind}
    (hk : k = none ∨ m.image = k) : Board.Well { d with mode := m, pending := k } := by
  obtain ⟨hmessage, himage, -⟩ := h
  refine ⟨hmessage, himage, fun j hj => ⟨hbusy, ?_⟩⟩
  rcases hk with rfl | hk
  · cases hj
  · exact hk.trans hj

theorem Board.Well.rests (h : Board.Well d) (hidle : d.inFlight = none) (m : BoardMode) :
    Board.Well { d with mode := m } := by
  obtain ⟨hmessage, himage, hpending⟩ := h
  refine ⟨hmessage, himage, fun k hk => ?_⟩
  have := (hpending k hk).1
  rw [hidle] at this
  cases this

theorem enteredMode_well (t : State) (m : BoardMode) (h : (s.board b).Well) : (enteredMode s t b m).Well := by
  unfold enteredMode
  split
  · next hbusy => exact h.pends hbusy m (.inr rfl)
  · next hidle =>
    have hnone : (s.board b).inFlight = none := by simpa using hidle
    split
    · exact h.started hnone (newTransfer_length t b _) m false
    · exact h.rests hnone m

theorem BoardResolved.well (h : BoardResolved s t b) (hs : (s.board b).Well) : (t.board b).Well := by
  rw [BoardResolved] at h
  rw [h]
  split
  · exact hs
  · exact enteredMode_well t _ hs

@[simp] theorem enteredMode_mode (s t : State) (b : BoardNo) (m : BoardMode) : (enteredMode s t b m).mode = m := by
  unfold enteredMode
  split
  · rfl
  · split <;> rfl

/-- A board that resolved stands in the mode that it resolves (R163). -/
theorem BoardResolved.mode (h : BoardResolved s t b) : (t.board b).mode = t.resolvedMode b := by
  rw [BoardResolved] at h
  rw [h]
  split
  · next hsame => exact hsame.symm
  · exact enteredMode_mode s t b _

/-- An image that is sent joins a record within its bounds (R161, R164, R167). -/
theorem sendImage_well {k : Option ImageKind} (hk : k = none ∨ (s.board b).mode.image = k)
    (hs : (s.board b').Well) : ((sendImage b k s).board b').Well := by
  by_cases hb : b' = b
  · subst hb
    unfold sendImage
    split
    · next hbusy => rw [State.setBoard_board_same]; exact hs.pends hbusy _ hk
    · next hidle =>
      split
      · rw [startImage, State.setBoard_board_same]
        exact hs.started (by simpa using hidle) (newTransfer_length s b' _) _ false
      · exact hs
  · rw [sendImage_board_of_ne hb]; exact hs

theorem takeStandingsChange_well (hs : (s.board b').Well) : ((takeStandingsChange b s).board b').Well := by
  unfold takeStandingsChange
  split
  · next hlive => exact sendImage_well (.inr (by rw [hlive]; rfl)) hs
  · exact hs

theorem updateStandings_well (hs : (s.board b).Well) : ((updateStandings s).board b).Well :=
  takeStandingsChange_well (takeStandingsChange_well hs)

/-! ## Standings changes at a board (R167) -/

/-- A driver takes a standings change as R167 says. -/
theorem takeStandingsChange_took (b : BoardNo) (s : State) : BoardTookChange s (takeStandingsChange b s) b := by
  have hframe := takeStandingsChange_frame s b
  obtain ⟨hmessage, hlive, -⟩ := takeStandingsChange_board_keeps s b b
  have htransfer := newTransfer_of_boards hframe hmessage hlive .repaint
  rw [BoardTookChange, htransfer]
  unfold takeStandingsChange sendImage
  split
  · split
    · rw [State.setBoard_board_same]
    · exact State.setBoard_board_same _ _ _
  · rfl

theorem BoardTookChange.congr_before (h : BoardTookChange s t b) (hb : u.board b = s.board b) : BoardTookChange u t b := by
  rw [BoardTookChange, hb]
  exact h

theorem BoardTookChange.congr_after (h : BoardTookChange s t b) (ht : u.outsideBoards = t.outsideBoards)
    (hb : u.board b = t.board b) : BoardTookChange s u b := by
  have htransfer := newTransfer_of_boards ht (congrArg Board.message hb) (congrArg Board.lastLive hb)
  rw [BoardTookChange, hb, htransfer]
  exact h

theorem takeStandingsChange_board_of_ne (h : b' ≠ b) (s : State) : (takeStandingsChange b s).board b' = s.board b' := by
  unfold takeStandingsChange
  split
  · exact sendImage_board_of_ne h _ _
  · rfl

theorem updateList_board (s : State) (b : BoardNo) : (updateList s).board b = s.board b := rfl

/-- Each driver takes the change of an update once (R155, R167). -/
theorem updateStandings_took (s : State) (b : BoardNo) : BoardTookChange s (updateStandings s) b := by
  have hfirst : BoardTookChange s (updateStandings s) 0 :=
    ((takeStandingsChange_took 0 (updateList s)).congr_after (takeStandingsChange_frame _ 1)
      (takeStandingsChange_board_of_ne (by decide) _)).congr_before (updateList_board s 0).symm
  have hother : s.board 1 = (takeStandingsChange 0 (updateList s)).board 1 :=
    ((takeStandingsChange_board_of_ne (by decide) (updateList s)).trans (updateList_board s 1)).symm
  have hsecond : BoardTookChange s (updateStandings s) 1 :=
    (takeStandingsChange_took 1 (takeStandingsChange 0 (updateList s))).congr_before hother
  match b with
  | 0 => exact hfirst
  | 1 => exact hsecond

/-! ## RESET SESSION at a board (R172) -/

/-- The record of a board that RESET SESSION voids: its last-LIVE order, and the order of a repaint in flight. -/
def Board.voided (d : Board) : Board :=
  { d with lastLive := [], orderVoid := d.inFlight.map (·.kind) = some .repaint }

/-- What a driver's reset makes of a record, `m` being the mode that it resolves and `start` the transfer of an image. -/
def Board.wasReset (d : Board) (m : BoardMode) (start : ImageKind → Transfer) : Board :=
  if d.inFlight.isSome then
    { d.voided with mode := m, pending := if m = .live then some .repaint else if m = d.mode then d.pending else m.image }
  else if m = .live then { d.voided with mode := m, inFlight := some (start .repaint), orderVoid := false }
  else if m = d.mode then { d.voided with mode := m }
  else
    match m.image with
    | some kind => { d.voided with mode := m, inFlight := some (start kind), orderVoid := false }
    | none => { d.voided with mode := m }

theorem boardWasReset_iff : BoardWasReset s t b ↔
    t.board b = (s.board b).wasReset (t.resolvedMode b) (t.newTransfer b) := by
  rfl

/-- A voided record that resolves its mode and then takes the standings change, unless its resolution has started a
repaint (R172). -/
theorem resolve_take_eq_wasReset (d : Board) (m : BoardMode) (start : ImageKind → Transfer) {resolved taken : Board}
    (hresolved : resolved = if m = d.mode then d.voided else if d.inFlight.isSome then { d.voided with mode := m, pending := m.image }
      else match m.image with
        | some kind => { d.voided with mode := m, inFlight := some (start kind), orderVoid := false }
        | none => { d.voided with mode := m })
    (htaken : taken = if resolved.mode = .live then
        if resolved.inFlight.isSome then { resolved with pending := some .repaint }
        else { resolved with inFlight := some (start .repaint), orderVoid := false }
      else resolved) :
    (if d.inFlight.isNone ∧ resolved.inFlight.isSome then resolved else taken) = d.wasReset m start := by
  subst htaken hresolved
  unfold Board.wasReset
  by_cases hsame : m = d.mode
  · subst hsame
    cases hfl : d.inFlight <;> cases hm : d.mode <;> simp [hfl, hm, Board.voided]
  · cases hfl : d.inFlight <;> cases m <;> simp [hfl, hsame, Board.voided, BoardMode.image]

theorem resetBoard_was (b : BoardNo) (s : State) : BoardWasReset s (resetBoard b s) b := by
  generalize hv : s.setBoard b (s.board b).voided = v
  have hvoided : v.board b = (s.board b).voided := by rw [← hv, State.setBoard_board_same]
  have hsame : v.outsideBoards = s.outsideBoards := by rw [← hv]; rfl
  have hreset : resetBoard b s = if (s.board b).inFlight.isNone ∧ ((resolveBoard b v).board b).inFlight.isSome then
      resolveBoard b v else takeStandingsChange b (resolveBoard b v) := by rw [← hv]; rfl
  have hresolved := resolveBoard_resolved b v
  have htook := takeStandingsChange_took b (resolveBoard b v)
  have hmode (u : State) (hu : u.outsideBoards = s.outsideBoards) : u.resolvedMode b = s.resolvedMode b :=
    resolvedMode_of_boards hu
  have hframe : (resolveBoard b v).outsideBoards = s.outsideBoards := (resolveBoard_frame v b).trans hsame
  have htransfer (u : State) (hu : u.outsideBoards = s.outsideBoards) (hm : (u.board b).message = (v.board b).message)
      (hl : (u.board b).lastLive = (v.board b).lastLive) : u.newTransfer b = v.newTransfer b :=
    funext fun k => newTransfer_of_boards (hu.trans hsame.symm) hm hl k
  have hkeeps := takeStandingsChange_board_keeps (resolveBoard b v) b b
  have hstart := htransfer _ hframe hresolved.keeps.1 hresolved.keeps.2
  have hstart' := htransfer _ ((takeStandingsChange_frame (resolveBoard b v) b).trans hframe)
    (hkeeps.1.trans hresolved.keeps.1) (hkeeps.2.1.trans hresolved.keeps.2)
  have hrecord : (resetBoard b s).board b =
      if (s.board b).inFlight.isNone ∧ ((resolveBoard b v).board b).inFlight.isSome then (resolveBoard b v).board b
      else (takeStandingsChange b (resolveBoard b v)).board b := by rw [hreset, apply_ite (State.board · b)]
  have hfinal : (resetBoard b s).newTransfer b = v.newTransfer b := by
    rw [hreset]
    split
    · exact hstart
    · exact hstart'
  rw [boardWasReset_iff, hmode _ (resetBoard_frame b s), hfinal, hrecord]
  refine resolve_take_eq_wasReset (s.board b) (s.resolvedMode b) (v.newTransfer b) ?_ ?_
  · rw [BoardResolved, hmode _ hframe, hvoided] at hresolved
    rw [hresolved]
    unfold enteredMode
    rw [hvoided, hstart]
    rfl
  · rw [BoardTookChange, hstart'] at htook
    exact htook

theorem resetBoard_board_of_ne (h : b' ≠ b) (s : State) : (resetBoard b s).board b' = s.board b' := by
  have hvoided : (s.setBoard b (s.board b).voided).board b' = s.board b' := State.setBoard_board_of_ne _ _ _ _ h
  have hresolved := (resolveBoard_board_of_ne h (s.setBoard b (s.board b).voided)).trans hvoided
  unfold resetBoard
  dsimp only
  split
  · exact hresolved
  · exact (takeStandingsChange_board_of_ne h _).trans hresolved

theorem BoardWasReset.congr_before (h : BoardWasReset s t b) (hb : u.board b = s.board b) : BoardWasReset u t b := by
  rw [boardWasReset_iff, hb]
  exact h

theorem BoardWasReset.congr_after (h : BoardWasReset s t b) (ht : u.outsideBoards = t.outsideBoards)
    (hb : u.board b = t.board b) : BoardWasReset s u b := by
  have htransfer := newTransfer_of_boards ht (congrArg Board.message hb) (congrArg Board.lastLive hb)
  rw [boardWasReset_iff, hb, resolvedMode_of_boards ht, funext htransfer]
  exact h

/-- Each board is reset by its own record, under the state that RESET SESSION leaves (R172). -/
theorem resetSession_was (s : State) (b : BoardNo) : BoardWasReset s (resetSession s) b := by
  obtain ⟨u, hboard, hsession⟩ : ∃ u, (∀ b, u.board b = s.board b) ∧ resetSession s = resetBoard 1 (resetBoard 0 u) :=
    ⟨_, fun _ => rfl, rfl⟩
  have hfirst : BoardWasReset s (resetSession s) 0 := by
    rw [hsession]
    exact ((resetBoard_was 0 u).congr_after (resetBoard_frame 1 _)
      (resetBoard_board_of_ne (by decide) _)).congr_before (hboard 0).symm
  have hsecond : BoardWasReset s (resetSession s) 1 := by
    rw [hsession]
    exact (resetBoard_was 1 (resetBoard 0 u)).congr_before
      ((resetBoard_board_of_ne (by decide) u).trans (hboard 1)).symm
  match b with
  | 0 => exact hfirst
  | 1 => exact hsecond

theorem Board.wasReset_mode (d : Board) (m : BoardMode) (start : ImageKind → Transfer) :
    (d.wasReset m start).mode = m := by
  unfold Board.wasReset
  split
  · rfl
  · split
    · rfl
    · split
      · rfl
      · split <;> rfl

theorem Board.Well.voided (h : Board.Well d) : d.voided.Well := h

theorem Board.Well.wasReset (h : Board.Well d) (m : BoardMode) {start : ImageKind → Transfer}
    (hstart : ∀ k, (start k).image.length = 256) : (d.wasReset m start).Well := by
  unfold Board.wasReset
  split
  · next hbusy =>
    obtain ⟨hmessage, himage, hpending⟩ := h
    refine ⟨hmessage, himage, fun k hk => ⟨hbusy, ?_⟩⟩
    dsimp only at hk ⊢
    split at hk
    · next hlive => rw [hlive]; exact hk
    · split at hk
      · next hsame => rw [hsame]; exact (hpending k hk).2
      · exact hk
  · next hidle =>
    have hnone : d.voided.inFlight = none := by simpa [Board.voided] using hidle
    split
    · exact h.voided.started hnone (hstart _) m false
    · split
      · exact h.voided.rests hnone m
      · split
        · exact h.voided.started hnone (hstart _) m false
        · exact h.voided.rests hnone m

/-! ## Rule writes (R197) and the taking of a request (R190) at the boards -/

theorem boardCfg_ne_holdLower (b : BoardNo) : Rule.boardCfg b ≠ Rule.holdLower := by revert b; decide

theorem boardCfg_inj : Rule.boardCfg b = Rule.boardCfg b' ↔ b = b' := by
  simp [Rule.boardCfg, Fin.ext_iff]

theorem writeRule_boards (r : RuleId) (v : Nat) (s : State) (b : BoardNo) :
    if r = Rule.boardCfg b then BoardResolved s (writeRule r v s) b else (writeRule r v s).board b = s.board b := by
  have hresolved (c : BoardNo) (hr : r = Rule.boardCfg c) (hwrite : writeRule r v s = resolveBoard c (s.setRuleValue r v)) :
      if r = Rule.boardCfg b then BoardResolved s (writeRule r v s) b else (writeRule r v s).board b = s.board b := by
    rw [hwrite]
    split
    · next h =>
      obtain rfl : b = c := boardCfg_inj.mp (h.symm.trans hr)
      exact (resolveBoard_resolved b (s.setRuleValue r v)).congr_before rfl
    · next h => exact resolveBoard_board_of_ne (b := c) (fun e => h (hr.trans (congrArg Rule.boardCfg e.symm))) (s.setRuleValue r v)
  have hkept (h : ∀ c, r ≠ Rule.boardCfg c) (hwrite : (writeRule r v s).board b = s.board b) :
      if r = Rule.boardCfg b then BoardResolved s (writeRule r v s) b else (writeRule r v s).board b = s.board b := by
    rw [if_neg (h b)]; exact hwrite
  by_cases h0 : r = Rule.boardCfg 0
  · exact hresolved 0 h0 (by subst h0; rfl)
  by_cases h1 : r = Rule.boardCfg 1
  · exact hresolved 1 h1 (by subst h1; rfl)
  refine hkept (fun c => by match c with | 0 => exact h0 | 1 => exact h1) ?_
  unfold writeRule
  dsimp only
  split
  case h_6 => unfold applyThresholds lowerFollows; split <;> rfl
  case h_11 hval => exact absurd (Fin.ext hval) h0
  case h_12 hval => exact absurd (Fin.ext hval) h1
  all_goals rfl

theorem writeRule_resolvedMode_of_ne {r : RuleId} (h : r ≠ Rule.boardCfg b) (v : Nat) (s : State) :
    (writeRule r v s).resolvedMode b = s.resolvedMode b := by
  have hview := writeRule_outside r v s
  have hreveal := congrArg State.reveal hview
  have hactive := congrArg State.roundActive hview
  have hlost := congrArg State.consoleLost hview
  have hrule : (writeRule r v s).rule (Rule.boardCfg b) = s.rule (Rule.boardCfg b) := by
    rw [writeRule_rule, if_neg (Ne.symm h), if_neg fun e => boardCfg_ne_holdLower b e.1]
  have htaken : (writeRule r v s).reveal = s.reveal := hreveal
  have hround : (writeRule r v s).roundActive = s.roundActive := hactive
  have hcondition : (writeRule r v s).consoleLost = s.consoleLost := hlost
  rw [State.resolvedMode, State.resolvedMode, State.boardConfig, State.boardConfig, hrule, htaken, hround, hcondition]

/-- A board at the taking of a request: resolved when it ends the CONSOLE_LOST condition, and untouched otherwise. -/
theorem requestTaken_boards (s : State) (b : BoardNo) :
    if s.consoleLost then BoardResolved s (requestTaken s) b else (requestTaken s).board b = s.board b := by
  unfold requestTaken
  dsimp only
  split
  · exact (resolveBoards_resolved b { s with consoleLost := false }).congr_before rfl
  · rfl

/-! ## Start-up's end (R172) and a transfer's end (R166) -/

theorem startBoard_other (h : b' ≠ b) (s : State) : (startBoard b s).board b' = s.board b' :=
  (sendImage_board_of_ne h _ _).trans (State.setBoard_board_of_ne _ _ _ _ h)

/-- The state in which start-up's end lets the drivers enter their modes: operation, each line with its CLOSED mark. -/
def startedState (s : State) : State := queueMarks .closed { s with phase := .running }

/-- Each board enters the mode that it resolves at the end of start-up (R172). -/
theorem startUpEnd_board (h : s.phase = .startUp) (b : BoardNo) :
    (startUpEnd s).board b = enteredMode s s b (s.resolvedMode b) := by
  have hfirst : (startBoard 0 (startedState s)).outsideBoards = (startedState s).outsideBoards := enterMode_frame _ _ _
  have hentered (u : State) (hu : u.outsideBoards = (startedState s).outsideBoards) (hb : u.board b = s.board b) :
      (startBoard b u).board b = enteredMode s s b (s.resolvedMode b) := by
    have hmode : u.resolvedMode b = s.resolvedMode b := (resolvedMode_of_boards hu).trans rfl
    have htransfer := newTransfer_of_boards (t' := u) (t := startedState s) (b := b) hu (by rw [hb]; rfl) (by rw [hb]; rfl)
    have hstarted k : (startedState s).newTransfer b k = s.newTransfer b k := by cases k <;> rfl
    rw [startBoard, enterMode_board_same, hmode]
    unfold enteredMode
    simp only [hb, htransfer, hstarted]
  have hend : (startUpEnd s).board b = (startBoard 1 (startBoard 0 (startedState s))).board b := by
    unfold startUpEnd startedState
    rw [if_pos h]
    rfl
  rw [hend]
  match b with
  | 0 => exact (startBoard_other (by decide) _).trans (hentered (startedState s) rfl rfl)
  | 1 => exact hentered _ hfirst (startBoard_other (by decide) _)

theorem startUpEnd_resolvedMode (h : s.phase = .startUp) (b : BoardNo) :
    (startUpEnd s).resolvedMode b = s.resolvedMode b := by
  have hfirst : (startBoard 0 (startedState s)).resolvedMode b = (startedState s).resolvedMode b :=
    resolvedMode_of_boards (enterMode_frame _ _ _)
  have hsecond : (startBoard 1 (startBoard 0 (startedState s))).resolvedMode b =
      (startBoard 0 (startedState s)).resolvedMode b := resolvedMode_of_boards (enterMode_frame _ _ _)
  have hend : startUpEnd s = kickLines (startBoard 1 (startBoard 0 (startedState s))) := if_pos h
  rw [hend]
  exact hsecond.trans (hfirst.trans rfl)

theorem transferEnd_well (hs : (s.board b').Well) : ((transferEnd b s).board b').Well := by
  have hother (h : b' ≠ b) {x y : Board} : (((s.setBoard b x).setBoard b y).board b') = s.board b' := by
    rw [State.setBoard_board_of_ne _ _ _ _ h, State.setBoard_board_of_ne _ _ _ _ h]
  unfold transferEnd
  dsimp only
  split
  · exact hs
  · split
    · obtain ⟨hmessage, himage, hpending⟩ := hs
      split
      · rw [State.setBoard_board]
        split
        · next e =>
          subst e
          exact ⟨hmessage, by rintro x ⟨⟩, by rintro k ⟨⟩⟩
        · exact ⟨hmessage, himage, hpending⟩
      · rw [startImage, State.setBoard_board]
        split
        · next e =>
          subst e
          rw [State.setBoard_board_same]
          exact ⟨hmessage, by rintro x ⟨⟩; exact newTransfer_length _ _ _, by rintro k ⟨⟩⟩
        · next h => rw [State.setBoard_board_of_ne _ _ _ _ h]; exact ⟨hmessage, himage, hpending⟩
    · exact hs

theorem storeMessage_well (text : List Byte) (hs : (s.board b').Well) : ((storeMessage b text s).board b').Well := by
  have hstored : ((s.setBoard b { s.board b with message := padRight 32 (text.map printable) }).board b').Well := by
    rw [State.setBoard_board]
    split
    · next e =>
      subst e
      obtain ⟨-, himage, hpending⟩ := hs
      exact ⟨padRight_length 32 _, himage, hpending⟩
    · exact hs
  unfold storeMessage
  dsimp only
  split
  · next hmode =>
    refine sendImage_well (.inr ?_) hstored
    rw [State.setBoard_board_same]
    rw [hmode]; rfl
  · exact hstored

/-! ## The boards in order -/

theorem boardsInOrder_iff : BoardsInOrder s ↔
    ∀ b, (s.board b).Well ∧ (s.phase = .running → (s.board b).mode = s.resolvedMode b) := by
  simp only [BoardsInOrder, Board.Well, and_assoc]

/-- Boards that resolved are in order. -/
theorem boardsInOrder_of_resolved (h : ∀ b, BoardResolved s t b) (hs : ∀ b, (s.board b).Well) : BoardsInOrder t :=
  boardsInOrder_iff.mpr fun b => ⟨(h b).well (hs b), fun _ => (h b).mode⟩

/-- Boards that keep their modes stay in order while nothing changes that the modes are resolved by. -/
theorem boardsInOrder_of_modes (hs : BoardsInOrder s) (hwell : ∀ b, (s.board b).Well → (t.board b).Well)
    (hmode : ∀ b, (t.board b).mode = (s.board b).mode) (hresolved : ∀ b, t.resolvedMode b = s.resolvedMode b)
    (hphase : t.phase = .running → s.phase = .running) : BoardsInOrder t :=
  boardsInOrder_iff.mpr fun b => by
    obtain ⟨hb, hm⟩ := boardsInOrder_iff.mp hs b
    exact ⟨hwell b hb, fun hrunning => by rw [hmode, hresolved]; exact hm (hphase hrunning)⟩

theorem boardsInOrder_of_same (hs : BoardsInOrder s) (hboard : ∀ b, t.board b = s.board b)
    (hresolved : ∀ b, t.resolvedMode b = s.resolvedMode b) (hphase : t.phase = s.phase) : BoardsInOrder t :=
  boardsInOrder_of_modes hs (fun b h => by rw [hboard]; exact h) (fun b => by rw [hboard]) hresolved
    fun h => hphase.symm.trans h

theorem updateStandings_boardsInOrder (hs : BoardsInOrder s) (hboard : ∀ b, t.board b = s.board b)
    (hresolved : ∀ b, t.resolvedMode b = s.resolvedMode b) (hphase : t.phase = s.phase) :
    BoardsInOrder (updateStandings t) := by
  have hspec := updateStandings_spec t
  refine boardsInOrder_of_modes (boardsInOrder_of_same hs hboard hresolved hphase) (fun b h => updateStandings_well h)
    (fun b => (updateStandings_board_keeps t b).2.2.1) (fun b => (resolvedMode_of_boards hspec).trans rfl) fun h => ?_
  exact (State.phase_of_boards hspec).symm.trans h

theorem writeScore_boardsInOrder (x : TeamNo) (record : Team) (hs : BoardsInOrder s) :
    BoardsInOrder (writeScore x record s) := by
  unfold writeScore
  split
  · exact updateStandings_boardsInOrder hs (fun _ => rfl) (fun _ => rfl) rfl
  · exact boardsInOrder_of_same hs (fun _ => rfl) (fun _ => rfl) rfl

theorem boards_of_contestWrite (h : ContestWrite s t) (hs : BoardsInOrder s) : BoardsInOrder t := by
  have hlamp := fun i v => lampWrite_frame s i v
  cases h with
  | lamp i v =>
    have e := hlamp i v
    have hboards := congrArg State.board e
    have hmodes := congrArg State.resolvedMode e
    have hphase := congrArg State.phase e
    exact boardsInOrder_of_same hs (congrFun hboards) (congrFun hmodes) hphase
  | notice | clock | ladder | entry | lockSeat | unbind | lockTeam =>
    exact boardsInOrder_of_same hs (fun _ => rfl) (fun _ => rfl) rfl
  | @round x _ hactive =>
    refine boardsInOrder_of_same hs (fun _ => rfl) (fun b => ?_) rfl
    change resolvedMode _ s.reveal.taken x.state.active s.consoleLost = _
    rw [hactive]
    rfl
  | close o => exact boardsInOrder_of_resolved (closeRound_resolved s o) fun b => (boardsInOrder_iff.mp hs b).1
  | right x => exact writeScore_boardsInOrder _ _ hs
  | wrong x => exact writeScore_boardsInOrder _ _ hs
  | poll key =>
    generalize hscored : ({ s with teams := Vector.ofFn fun t => s.polledTeam key t } : State) = scored
    have hboard b : scored.board b = s.board b := by rw [← hscored]; rfl
    have hmode b : scored.resolvedMode b = s.resolvedMode b := by rw [← hscored]; rfl
    have hphase : scored.phase = s.phase := by rw [← hscored]
    have hpoll : scorePoll key s =
        if allTeams.any fun t => scoreChanged (s.team t) (scored.team t) then updateStandings scored else scored := by
      rw [← hscored]; rfl
    rw [hpoll]
    split
    · exact updateStandings_boardsInOrder hs hboard hmode hphase
    · exact boardsInOrder_of_same hs hboard hmode hphase

theorem boardsInOrder_of_write (h : Write s t) (hs : BoardsInOrder s) : BoardsInOrder t := by
  have hframe (view : State → State) (hboard : ∀ u b, (view u).board b = u.board b)
      (hresolved : ∀ u b, (view u).resolvedMode b = u.resolvedMode b) (hphase : ∀ u, (view u).phase = u.phase)
      (e : view t = view s) : BoardsInOrder t :=
    boardsInOrder_of_same hs (fun b => (hboard t b).symm.trans ((congrArg (State.board · b) e).trans (hboard s b)))
      (fun b => (hresolved t b).symm.trans ((congrArg (State.resolvedMode · b) e).trans (hresolved s b)))
      ((hphase t).symm.trans ((congrArg State.phase e).trans (hphase s)))
  have hwell b : (s.board b).Well := (boardsInOrder_iff.mp hs b).1
  have hsame (u : State) (hboard : ∀ b, u.board b = s.board b) (hresolved : ∀ b, u.resolvedMode b = s.resolvedMode b)
      (hphase : u.phase = s.phase) : BoardsInOrder u := boardsInOrder_of_same hs hboard hresolved hphase
  cases h with
  | contest h => exact boards_of_contestWrite h hs
  | aside h => exact hframe State.outsideAside (fun _ _ => rfl) (fun _ _ => rfl) (fun _ => rfl) h
  | ended before =>
    exact hframe State.outsideLines (fun _ _ => rfl) (fun _ _ => rfl) (fun _ => rfl) (endEvent_frame before s)
  | presence f =>
    exact hframe State.outsidePresence (fun _ _ => rfl) (fun _ _ => rfl) (fun _ => rfl) (updatePresence_outside f s)
  | housekeeping =>
    exact hframe State.outsidePresence (fun _ _ => rfl) (fun _ _ => rfl) (fun _ => rfl) (housekeepingExpiry_outside s)
  | take | clear | bind | bench | recalled | purge => exact hsame _ (fun _ => rfl) (fun _ => rfl) rfl
  | revealPin => exact hsame _ (fun _ => rfl) (fun _ => rfl) rfl
  | startEdge n v =>
    exact hframe State.outsideLines (fun _ _ => rfl) (fun _ _ => rfl) (fun _ => rfl) (startEdge_frame s n v)
  | gapLimit n =>
    exact hframe State.outsideReception (fun _ _ => rfl) (fun _ _ => rfl) (fun _ => rfl) (gapLimit_frame s n)
  | characterEnd n c =>
    exact hframe State.outsideReception (fun _ _ => rfl) (fun _ _ => rfl) (fun _ => rfl) (characterEnd_frame s n c)
  | frameEnd n =>
    exact hframe State.outsideLines (fun _ _ => rfl) (fun _ _ => rfl) (fun _ => rfl) (downstreamFrameEnd_frame s n)
  | revealTaken =>
    unfold revealLevelTaken
    split
    · exact boardsInOrder_of_resolved (fun b => resolveBoards_resolved b _) hwell
    · exact hs
  | heard =>
    by_cases hlost : s.consoleLost = true
    · exact boardsInOrder_of_resolved (fun b => by simpa [hlost] using requestTaken_boards s b) hwell
    · refine hsame _ (fun b => by simpa [hlost] using requestTaken_boards s b)
        (fun b => (resolvedMode_of_boards (requestTaken_frame s)).trans ?_) ((State.phase_of_boards (requestTaken_frame s)).trans rfl)
      change resolvedMode _ s.reveal.taken s.roundActive false = resolvedMode _ _ _ s.consoleLost
      rw [Bool.not_eq_true] at hlost
      rw [hlost]
      rfl
  | lost =>
    refine boardsInOrder_of_resolved (fun b => resolveBoards_resolved b _) fun b => ?_
    rw [abandonRound_eq]
    split
    · exact (closeRound_resolved { s with consoleLost := true } .abandoned b).well (hwell b)
    · exact hwell b
  | transferEnd b =>
    have hframe := transferEnd_frame s b
    refine boardsInOrder_of_modes hs (fun _ h => transferEnd_well h) (fun b' => ?_)
      (fun _ => resolvedMode_of_boards hframe) fun h => (State.phase_of_boards hframe).symm.trans h
    unfold transferEnd
    dsimp only
    split
    · rfl
    · split
      · split
        · rw [State.setBoard_board]; split
          · next e => subst e; rfl
          · rfl
        · rw [startImage, State.setBoard_board]; split
          · next e => subst e; rw [State.setBoard_board_same]
          · next e => rw [State.setBoard_board_of_ne _ _ _ _ e]
      · rfl
  | message b text =>
    have hframe := storeMessage_frame b text s
    refine boardsInOrder_of_modes hs (fun _ h => storeMessage_well text h) (fun b' => ?_)
      (fun _ => resolvedMode_of_boards hframe) fun h => (State.phase_of_boards hframe).symm.trans h
    have hstored : ((s.setBoard b { s.board b with message := padRight 32 (text.map printable) }).board b').mode =
        (s.board b').mode := by
      rw [State.setBoard_board]; split
      · next e => subst e; rfl
      · rfl
    unfold storeMessage
    dsimp only
    split
    · rw [(sendImage_board_keeps _ b b' _).2.2.1, hstored]
    · exact hstored
  | rule r v =>
    refine boardsInOrder_iff.mpr fun b => ?_
    have hphase := congrArg State.phase (writeRule_outside r (clampRule (s.rule Rule.holdUpper) r v) s)
    have hboard := writeRule_boards r (clampRule (s.rule Rule.holdUpper) r v) s b
    split at hboard
    · exact ⟨hboard.well (hwell b), fun _ => hboard.mode⟩
    · next hr =>
      rw [hboard, writeRule_resolvedMode_of_ne hr]
      exact ⟨hwell b, fun hrunning => (boardsInOrder_iff.mp hs b).2 (hphase.symm.trans hrunning)⟩
  | enrol => exact updateStandings_boardsInOrder hs (fun _ => rfl) (fun _ => rfl) rfl
  | rename =>
    unfold renameTeam; dsimp only; split
    · exact updateStandings_boardsInOrder hs (fun _ => rfl) (fun _ => rfl) rfl
    · exact hsame _ (fun _ => rfl) (fun _ => rfl) rfl
  | retire => exact updateStandings_boardsInOrder hs (fun _ => rfl) (fun _ => rfl) rfl
  | score => exact writeScore_boardsInOrder _ _ hs
  | opened => exact boardsInOrder_of_resolved (fun b => resolveBoards_resolved b _) hwell
  | powerOn =>
    unfold powerOn; split
    · exact boardsInOrder_of_modes hs (fun _ h => h) (fun _ => rfl) (fun _ => rfl) fun h => nomatch h
    · exact hs
  | @rest phase _ hphase =>
    refine boardsInOrder_iff.mpr fun b => ⟨?_, fun hrunning => ?_⟩
    · have hboard : (toRest phase s).board b = { s.board b with inFlight := none, pending := none } := by
        unfold toRest abandonStore
        split <;> simp [State.board]
      rw [hboard]
      exact ⟨(hwell b).1, by rintro x ⟨⟩, by rintro k ⟨⟩⟩
    · have : (toRest phase s).phase = phase := rfl
      rw [this] at hrunning
      rcases hphase with rfl | rfl <;> cases hrunning
  | startUp =>
    unfold startUp; split
    · refine boardsInOrder_iff.mpr fun b => ⟨?_, fun h => nomatch h⟩
      rw [State.powerOnValues, State.board, Fin.getElem_fin, Vector.getElem_map]
      exact ⟨List.length_replicate, by rintro x ⟨⟩, by rintro k ⟨⟩⟩
    · exact hs
  | startUpEnd =>
    by_cases hphase : s.phase = .startUp
    · refine boardsInOrder_iff.mpr fun b => ?_
      have hresolved : (startUpEnd s).resolvedMode b = s.resolvedMode b := startUpEnd_resolvedMode hphase b
      rw [startUpEnd_board hphase, enteredMode_mode, hresolved]
      exact ⟨enteredMode_well s _ (hwell b), fun _ => rfl⟩
    · unfold startUpEnd; rw [if_neg hphase]; exact hs
  | session =>
    refine boardsInOrder_iff.mpr fun b => ?_
    rw [boardWasReset_iff.mp (resetSession_was s b)]
    exact ⟨(hwell b).wasReset _ (newTransfer_length _ b), fun _ => Board.wasReset_mode _ _ _⟩

/-- Settles O12. -/
theorem boardsStayInOrder : Obligations.BoardsStayInOrder :=
  keptByStep_of_writes (fun _ _ h => h) fun _ _ => boardsInOrder_of_write

end Sys2Proof.Machine
end

section
/-! PROOFS. What every write makes of a seat line, and that every step keeps the lines within their bounds (R41, R51, R59,
R60), disabled lines empty (R48), and the flow states in step with the thresholds (R53, R55, R56). -/

namespace Sys2Proof.Machine

variable {s t : State} {n : LineNo} {l m : Line}

/-! ## One operation on a line -/

/-- A partial frame has one to three characters (R41). -/
def AssemblerBounded (v : Option PartialFrame) : Prop :=
  ∀ p, v = some p → 1 ≤ p.characters.length ∧ p.characters.length ≤ 3

/-- What a write other than a rule's can make of line `n`, which is enabled or not, under the flow thresholds. -/
inductive LineOp (enabled : Bool) (upper lower : Nat) (n : LineNo) : Line → Line → Prop
  | lamp (addr : LocalAddr) (v : Lamp) (l : Line) (h : enabled = true) : LineOp enabled upper lower n l (l.queueLamp addr v)
  | mark (v : Mark) (l : Line) (h : enabled = true) : LineOp enabled upper lower n l (l.queueMark v)
  | dropLamps (l : Line) : LineOp enabled upper lower n l l.dropLamps
  | kick (l : Line) : LineOp enabled upper lower n l l.kick
  | frameEnd (l : Line) : LineOp enabled upper lower n l { l with sending := none }
  | take {l : Line} (hqueued : l.queue ≠ []) : LineOp enabled upper lower n l (l.take lower)
  | receiver (v : Receiver) (l : Line) (h : enabled = true) : LineOp enabled upper lower n l { l with receiver := v }
  | assembler {v : Option PartialFrame} (l : Line) (h : enabled = true)
      (hv : AssemblerBounded l.assembler → AssemblerBounded v) :
      LineOp enabled upper lower n l { l with assembler := v }
  | join {f : SeatFrame} {l : Line} {every : Nat} (h : enabled = true) (hroom : l.queue.length < 16) (hevery : every ≤ 16)
      (hf : lineOf f.seat = n ∧ f.key < 16 ∧ f.age < 128) : LineOp enabled upper lower n l (l.join upper every f)
  | overrun {every : Nat} (l : Line) (h : enabled = true) (hevery : every ≤ 16) : LineOp enabled upper lower n l (l.overrun every)
  | rest (l : Line) : LineOp enabled upper lower n l { l with receiver := .hunting, assembler := none, sending := none }
  | session (l : Line) (h : enabled = true) : LineOp enabled upper lower n l l.sessionReset

/-- A chain of operations on a line. -/
abbrev LineOps (enabled : Bool) (upper lower : Nat) (n : LineNo) : Line → Line → Prop :=
  Relation.ReflTransGen (LineOp enabled upper lower n)

/-- The operations that the rules of a state give line `n`. -/
abbrev State.LineOps (s : State) (n : LineNo) : Line → Line → Prop :=
  Machine.LineOps (s.lineEnabled n) (s.rule Rule.holdUpper) (s.rule Rule.holdLower) n

theorem State.LineOps.of_eq (h : m = l) : s.LineOps n l m := by
  subst h; exact .refl

theorem LineOp.ops {enabled : Bool} {upper lower : Nat} (h : LineOp enabled upper lower n l m) :
    LineOps enabled upper lower n l m := .single h

theorem lineOps_of_rules (h : t.rules = s.rules) : t.LineOps = s.LineOps := by
  unfold State.LineOps State.lineEnabled State.rule
  rw [h]

/-! ## The writes at a line -/

theorem kick_ops (l : Line) : s.LineOps n l l.kick := (LineOp.kick l).ops

theorem endEvent_lineOps (before : State) (n : LineNo) : s.LineOps n (s.line n) ((endEvent before s).line n) := by
  rw [endEvent_line]
  split
  · next h => exact (LineOp.mark .closed _ h.2.2).ops.trans (kick_ops _)
  · exact kick_ops _

theorem placeFrame_lineOps {f : SeatFrame} (henabled : s.lineEnabled n = true)
    (hf : lineOf f.seat = n ∧ f.key < 16 ∧ f.age < 128) :
    s.LineOps n (s.line n) ((placeFrame n f s).line n) := by
  have hevery : reholdFrames (s.rule Rule.reholdEvery) ≤ 16 := by unfold reholdFrames; split <;> decide
  unfold placeFrame
  dsimp only
  split
  · next hroom => rw [State.setLine_line_same]; exact (LineOp.join henabled hroom hevery hf).ops
  · rw [State.setNotice_line, State.setLine_line_same]; exact (LineOp.overrun _ henabled hevery).ops

theorem placeFrame_line_of_ne {m : LineNo} (h : m ≠ n) (f : SeatFrame) : (placeFrame n f s).line m = s.line m := by
  unfold placeFrame
  dsimp only
  split
  · exact State.setLine_line_of_ne _ _ _ _ h
  · exact State.setLine_line_of_ne _ _ _ _ h

/-- A good frame is of its line, with a key below 16 and an age below 128 (R46, R51). -/
theorem judgeFrame_bounds {seats capture : Nat} {stopped : Bool} {lead key age check : Byte} {f : SeatFrame}
    (h : judgeFrame seats n capture stopped lead key age check = some f) :
    lineOf f.seat = n ∧ f.key < 16 ∧ f.age < 128 := by
  unfold judgeFrame at h
  split at h
  · split at h
    · cases h
      refine ⟨Fin.ext ?_, Nat.mod_lt _ (by decide), Nat.mod_lt _ (by decide)⟩
      simp only [lineOf, seatAt]
      omega
    · cases h
  · cases h

theorem assemble_line_of_ne {m : LineNo} (h : m ≠ n) (c : Byte) (clock : Nat) (stopped : Bool) :
    (assemble n c clock stopped s).line m = s.line m := by
  have hset {x : Line} : (s.setLine n x).line m = s.line m := State.setLine_line_of_ne _ _ _ _ h
  unfold assemble
  dsimp only
  split
  · split
    · exact hset
    · exact hset
  · split
    · rfl
    · split
      · split
        · exact (placeFrame_line_of_ne h _).trans hset
        · exact hset
      · exact hset

theorem assemble_lineOps (henabled : s.lineEnabled n = true) (c : Byte) (clock : Nat) (stopped : Bool) :
    s.LineOps n (s.line n) ((assemble n c clock stopped s).line n) := by
  have hemptied : s.LineOps n (s.line n) { s.line n with assembler := none } :=
    (LineOp.assembler _ henabled fun _ => by rintro p ⟨⟩).ops
  unfold assemble
  dsimp only
  split
  · have hbegun : s.LineOps n (s.line n)
        { s.line n with assembler := some { characters := [c], capture := clock, stopped } } :=
      (LineOp.assembler _ henabled fun _ => by rintro p ⟨⟩; exact ⟨Nat.le_refl 1, Nat.one_le_ofNat⟩).ops
    split
    · exact (State.setLine_line_same s n _).symm ▸ hbegun
    · exact (State.setLine_line_same s n _).symm ▸ hbegun
  · split
    · exact .refl
    · next p hp =>
      split
      · split
        · next hjudged =>
          have hplaced := placeFrame_lineOps (s := s.setLine n { s.line n with assembler := none })
            (by rw [State.setLine_lineEnabled]; exact henabled) (judgeFrame_bounds hjudged)
          rw [State.setLine_line_same] at hplaced
          exact hemptied.trans hplaced
        · exact (State.setLine_line_same s n _).symm ▸ hemptied
      · next hnot =>
        rw [State.setLine_line_same]
        refine (LineOp.assembler _ henabled fun hpartial => ?_).ops
        obtain ⟨hlow, hhigh⟩ := hpartial p hp
        rintro q ⟨⟩
        have hthree : p.characters.length ≠ 3 := fun h => by
          obtain ⟨a, b, c, habc⟩ := List.length_eq_three.mp h
          exact hnot a b c habc
        simp only [List.length_append, List.length_cons, List.length_nil]
        omega

theorem characterEnd_lineOps (n m : LineNo) (c : Byte) : s.LineOps m (s.line m) ((characterEnd n c s).line m) := by
  unfold characterEnd
  split
  · next clock stopped _ =>
    split
    · next h =>
      generalize hu : s.setLine n { s.line n with receiver := .hunting } = u
      have hrules : u.rules = s.rules := by rw [← hu]; rfl
      have henabled : u.lineEnabled n = true := by rw [← hu]; exact h.2
      have hrulesAll : (assemble n c clock stopped u).rules = s.rules := by
        have e := congrArg State.rules (assemble_frame u n c clock stopped)
        exact e.trans hrules
      have hended := endEvent_lineOps (s := assemble n c clock stopped u) s m
      rw [lineOps_of_rules hrulesAll] at hended
      refine .trans ?_ hended
      by_cases e : m = n
      · subst e
        have hline : u.line m = { s.line m with receiver := .hunting } := by rw [← hu, State.setLine_line_same]
        have hassembled := assemble_lineOps henabled c clock stopped
        rw [lineOps_of_rules hrules, hline] at hassembled
        exact (LineOp.receiver .hunting _ h.2).ops.trans hassembled
      · rw [assemble_line_of_ne e, ← hu, State.setLine_line_of_ne _ _ _ _ e]
    · exact .refl
  · exact .refl

theorem setLine_lineOps {m : LineNo} (n : LineNo) (h : s.LineOps n (s.line n) l) :
    s.LineOps m (s.line m) ((s.setLine n l).line m) := by
  rw [State.setLine_line]
  split
  · next e => subst e; exact h
  · exact .refl

theorem lineOps_of_contestWrite (h : ContestWrite s t) (n : LineNo) : s.LineOps n (s.line n) (t.line n) := by
  cases h with
  | lamp i v =>
    rw [lampWrite_line]
    split
    · next h => obtain ⟨rfl, henabled⟩ := h; exact (LineOp.lamp _ v _ henabled).ops
    · exact .refl
  | notice | clock | ladder | entry | lockTeam | lockSeat | unbind | round => exact .refl
  | close o => exact .of_eq (closeRound_line s o n)
  | right x => exact .of_eq (writeScore_line s _ _ n)
  | wrong x => exact .of_eq (writeScore_line s _ _ n)
  | poll key => exact .of_eq (scorePoll_line s key n)

/-- What a write makes of the lines: operations under standing rules, power-on values, or the write of a rule. -/
def LinesStep (s t : State) : Prop :=
  (t.rules = s.rules ∧ ∀ n, s.LineOps n (s.line n) (t.line n)) ∨ (∀ n, t.line n = Line.initial) ∨
    ∃ r v, t = writeRule r (clampRule (s.rule Rule.holdUpper) r v) s

theorem LinesStep.of_ops (hrules : t.rules = s.rules) (hline : ∀ n, s.LineOps n (s.line n) (t.line n)) : LinesStep s t :=
  .inl ⟨hrules, hline⟩

theorem LinesStep.of_same (hrules : t.rules = s.rules) (hline : ∀ n, t.line n = s.line n) : LinesStep s t :=
  .of_ops hrules fun n => .of_eq (hline n)

theorem LinesStep.of_boards (h : t.outsideBoards = s.outsideBoards) : LinesStep s t :=
  .of_same (State.rules_of_boards h) (State.line_of_boards h)

theorem startUpEnd_lines (h : s.phase = .startUp) (n : LineNo) :
    (startUpEnd s).line n = (if s.lineEnabled n then (s.line n).queueMark .closed else s.line n).kick := by
  have hfirst := State.line_of_boards (enterMode_frame (startedState s) 0 ((startedState s).resolvedMode 0)) n
  have hsecond := State.line_of_boards
    (enterMode_frame (startBoard 0 (startedState s)) 1 ((startBoard 0 (startedState s)).resolvedMode 1)) n
  have hend : startUpEnd s = kickLines (startBoard 1 (startBoard 0 (startedState s))) := if_pos h
  have hstarted : (startedState s).line n = if s.lineEnabled n then (s.line n).queueMark .closed else s.line n :=
    queueMarks_line _ _ n
  rw [hend, kickLines_line, ← hstarted]
  exact congrArg Line.kick (hsecond.trans hfirst)

theorem lines_of_write (h : Write s t) : LinesStep s t := by
  have hframe (view : State → State) (hrules : ∀ u, (view u).rules = u.rules) (hline : ∀ u n, (view u).line n = u.line n)
      (e : view t = view s) : LinesStep s t := .of_same ((hrules t).symm.trans ((congrArg State.rules e).trans (hrules s)))
    fun n => (hline t n).symm.trans ((congrArg (State.line · n) e).trans (hline s n))
  cases h with
  | contest h => exact .of_ops (rules_of_contestWrite h) (lineOps_of_contestWrite h)
  | aside h => exact hframe State.outsideAside (fun _ => rfl) (fun _ _ => rfl) h
  | ended before =>
    have hrules := congrArg State.rules (endEvent_frame before s)
    exact .of_ops hrules (endEvent_lineOps before)
  | presence f => exact hframe State.outsidePresence (fun _ => rfl) (fun _ _ => rfl) (updatePresence_outside f s)
  | housekeeping => exact hframe State.outsidePresence (fun _ => rfl) (fun _ _ => rfl) (housekeepingExpiry_outside s)
  | take hqueued => exact LinesStep.of_ops rfl (fun _ => setLine_lineOps _ (LineOp.take hqueued).ops)
  | revealPin | clear | bind | bench | recalled | purge => exact LinesStep.of_same rfl fun _ => rfl
  | startEdge n b =>
    unfold startEdge
    split
    · next h => exact LinesStep.of_ops rfl (fun _ => setLine_lineOps n (LineOp.receiver _ _ h.2.1).ops)
    · exact LinesStep.of_same rfl fun _ => rfl
  | gapLimit n =>
    unfold gapLimit
    split
    · next h =>
      exact LinesStep.of_ops rfl (fun _ => setLine_lineOps n (LineOp.assembler _ h.2.1 fun _ => by rintro p ⟨⟩).ops)
    · exact LinesStep.of_same rfl fun _ => rfl
  | characterEnd n c =>
    have hrules := congrArg State.rules (characterEnd_frame s n c)
    exact .of_ops hrules fun m => characterEnd_lineOps n m c
  | frameEnd n =>
    unfold downstreamFrameEnd
    split
    · exact LinesStep.of_ops rfl (fun _ => setLine_lineOps n ((LineOp.frameEnd _).ops.trans (kick_ops _)))
    · exact LinesStep.of_same rfl fun _ => rfl
  | revealTaken =>
    have hframe := revealLevelTaken_frame s
    exact LinesStep.of_same ((State.rules_of_boards hframe).trans rfl) fun n => (State.line_of_boards hframe n).trans rfl
  | heard =>
    have hframe := requestTaken_frame s
    exact LinesStep.of_same ((State.rules_of_boards hframe).trans rfl) fun n => (State.line_of_boards hframe n).trans rfl
  | lost =>
    have hboards := resolveBoards_frame (abandonRound { s with consoleLost := true })
    refine LinesStep.of_same ((State.rules_of_boards hboards).trans ?_) fun n => (State.line_of_boards hboards n).trans ?_
    · rw [abandonRound_eq]; split
      · exact closeRound_rules _ _
      · rfl
    · rw [abandonRound_eq]; split
      · exact closeRound_line _ _ n
      · rfl
  | transferEnd b => exact .of_boards (transferEnd_frame s b)
  | message b text => exact .of_boards (storeMessage_frame b text s)
  | rule r v => exact .inr (.inr ⟨r, v, rfl⟩)
  | enrol => exact LinesStep.of_same (updateStandings_rules _) (updateStandings_line _)
  | rename =>
    unfold renameTeam; dsimp only; split
    · exact LinesStep.of_same (updateStandings_rules _) (updateStandings_line _)
    · exact LinesStep.of_same rfl fun _ => rfl
  | retire => exact LinesStep.of_same (updateStandings_rules _) (updateStandings_line _)
  | score => exact LinesStep.of_same (writeScore_rules s _ _) (writeScore_line s _ _)
  | @opened kind _ window =>
    have hspec := openRound_spec s kind (clampWindow window)
    refine .of_ops ((State.rules_of_boards hspec).trans rfl) fun n => ?_
    rw [State.line_of_boards hspec n]
    simp only [State.line, Fin.getElem_fin, Vector.getElem_ofFn]
    split
    · next henabled => exact (LineOp.dropLamps _).ops.tail (.mark _ _ henabled)
    · exact .refl
  | powerOn => unfold powerOn; split <;> exact LinesStep.of_same rfl fun _ => rfl
  | @rest phase =>
    have hline n : (toRest phase s).line n =
        { s.line n with receiver := .hunting, assembler := none, sending := none } := by
      unfold toRest abandonStore
      split <;> simp [State.line]
    refine .of_ops (by unfold toRest abandonStore; split <;> rfl) fun n => ?_
    rw [hline]
    exact (LineOp.rest _).ops
  | startUp =>
    unfold startUp; split
    · exact .inr (.inl fun n => by simp [State.line, State.powerOnValues])
    · exact LinesStep.of_same rfl fun _ => rfl
  | startUpEnd =>
    have hrules : (startUpEnd s).rules = s.rules := by
      unfold startUpEnd; split
      · exact (State.rules_of_boards (enterMode_frame _ 1 _)).trans
          ((State.rules_of_boards (enterMode_frame _ 0 _)).trans rfl)
      · rfl
    by_cases hphase : s.phase = .startUp
    · refine .of_ops hrules fun n => ?_
      rw [startUpEnd_lines hphase]
      split
      · next henabled => exact (LineOp.mark _ _ henabled).ops.trans (kick_ops _)
      · exact kick_ops _
    · exact .of_same hrules fun n => by rw [startUpEnd, if_neg hphase]
  | session =>
    have hspec := resetSession_spec s
    refine .of_ops ((State.rules_of_boards hspec).trans rfl) fun n => ?_
    rw [State.line_of_boards hspec n]
    simp only [State.line, Fin.getElem_fin, Vector.getElem_ofFn]
    split
    · next henabled => exact (LineOp.session _ henabled).ops
    · exact .refl

/-! ## Rule writes at a line (R43, R49, R56) -/

theorem lineSeats_inj {n m : LineNo} : Rule.lineSeats n = Rule.lineSeats m ↔ n = m := by
  simp [Rule.lineSeats, Fin.ext_iff]

/-- The rules by what their write does at the lines. -/
theorem rule_cases (r : RuleId) :
    (∃ m, r = Rule.lineSeats m) ∨ r = Rule.seatRate ∨ (17 ≤ r.val ∧ r.val ≤ 19) ∨ (r.val < 12 ∨ 19 < r.val) := by
  rcases Nat.lt_or_ge r.val 12 with h | h
  · exact .inr (.inr (.inr (.inl h)))
  rcases Nat.lt_or_ge r.val 16 with h' | h'
  · exact .inl ⟨⟨r.val - 12, by omega⟩, Fin.ext (by simp only [Rule.lineSeats]; omega)⟩
  rcases Nat.lt_or_ge r.val 17 with h'' | h''
  · exact .inr (.inl (Fin.ext (show r.val = 16 by omega)))
  · rcases Nat.lt_or_ge r.val 20 with h3 | h3
    · exact .inr (.inr (.inl ⟨h'', by omega⟩))
    · exact .inr (.inr (.inr (.inr h3)))

theorem lineSeats_ne {r : RuleId} (h : r.val < 12 ∨ 15 < r.val) (n : LineNo) : r ≠ Rule.lineSeats n := fun e => by
  have := congrArg Fin.val e
  simp only [Rule.lineSeats] at this
  omega

/-- Only the write of a line's LINEn_SEATS enables or disables it (R48). -/
theorem writeRule_lineEnabled_of_ne {r : RuleId} (h : r ≠ Rule.lineSeats n) (v : Nat) (s : State) :
    (writeRule r v s).lineEnabled n = s.lineEnabled n := by
  have hlower : Rule.lineSeats n ≠ Rule.holdLower := (lineSeats_ne (.inr (by decide)) n).symm
  rw [State.lineEnabled, State.lineEnabled, writeRule_rule, if_neg h.symm, if_neg fun e => hlower e.1]

theorem writeRule_lineSeats_rule (n : LineNo) (v : Nat) (s : State) :
    (writeRule (Rule.lineSeats n) v s).rule (Rule.lineSeats n) = v := by rw [writeRule_rule, if_pos rfl]

/-- A write of LINEn_SEATS acts on its line alone (R49). -/
theorem writeRule_line_of_lineSeats (m : LineNo) (v : Nat) (s : State) (n : LineNo) :
    (writeRule (Rule.lineSeats m) v s).line n =
      if n = m then (s.line n).seatsWritten (s.rule (Rule.lineSeats n)) v else s.line n := by
  have hwrite : writeRule (Rule.lineSeats m) v s =
      lineSeatsWritten m (s.rule (Rule.lineSeats m)) (s.setRuleValue (Rule.lineSeats m) v) := by
    match m with
    | 0 | 1 | 2 | 3 => rfl
  rw [hwrite, lineSeatsWritten, State.setLine_line, State.setRuleValue_rule_same, State.setRuleValue_line,
    State.setRuleValue_line]
  split
  · next e => rw [e]
  · rfl

/-- A write of SEAT_RATE acts on every enabled line (R43). -/
theorem writeRule_line_of_seatRate (v : Nat) (s : State) (n : LineNo) :
    (writeRule Rule.seatRate v s).line n = if s.lineEnabled n then (s.line n).rateWritten else s.line n := by
  have henabled := writeRule_lineEnabled_of_ne (n := n) (lineSeats_ne (.inr (by decide)) n : Rule.seatRate ≠ _) v s
  have hwrite : writeRule Rule.seatRate v s = seatRateWritten (s.setRuleValue Rule.seatRate v) := rfl
  have hsame : (seatRateWritten (s.setRuleValue Rule.seatRate v)).lineEnabled n =
      (s.setRuleValue Rule.seatRate v).lineEnabled n := State.mapLines_lineEnabled _ _ _
  rw [hwrite, hsame] at henabled
  rw [hwrite, seatRateWritten, State.mapLines_line, State.setRuleValue_line, henabled]

/-- A write of HOLD_UPPER, HOLD_LOWER or REHOLD_EVERY applies the thresholds to every enabled line (R56). -/
theorem writeRule_line_of_threshold {r : RuleId} (hlow : 17 ≤ r.val) (hhigh : r.val ≤ 19) (v : Nat) (s : State)
    (n : LineNo) :
    (writeRule r v s).line n =
      if s.lineEnabled n then
        (s.line n).applyThresholds ((writeRule r v s).rule Rule.holdUpper) ((writeRule r v s).rule Rule.holdLower)
      else s.line n := by
  have henabled := writeRule_lineEnabled_of_ne (lineSeats_ne (r := r) (.inr (by omega)) n) v s
  obtain ⟨u, hlines, hwrite⟩ : ∃ u, u.lines = s.lines ∧ writeRule r v s = applyThresholds u := by
    unfold writeRule
    dsimp only
    split
    case h_6 => exact ⟨_, by unfold lowerFollows; split <;> rfl, rfl⟩
    case h_7 | h_8 => exact ⟨s.setRuleValue r v, rfl, rfl⟩
    case h_13 =>
      have : r.val = 17 ∨ r.val = 18 ∨ r.val = 19 := by omega
      exact absurd this (by rintro (h | h | h) <;> contradiction)
    all_goals omega
  have hline : u.line n = s.line n := by rw [State.line, hlines]; rfl
  have hsame : (applyThresholds u).lineEnabled n = u.lineEnabled n := State.mapLines_lineEnabled _ _ _
  rw [hwrite, hsame] at henabled
  rw [hwrite, ← henabled, ← hline]
  exact State.mapLines_line _ _ _

/-- The write of any other rule leaves the lines. -/
theorem writeRule_line_of_other {r : RuleId} (h : r.val < 12 ∨ 19 < r.val) (v : Nat) (s : State) (n : LineNo) :
    (writeRule r v s).line n = s.line n := by
  unfold writeRule
  dsimp only
  split
  case h_9 | h_10 | h_13 => rfl
  case h_11 => exact State.line_of_boards (resolveBoard_frame _ 0) n
  case h_12 => exact State.line_of_boards (resolveBoard_frame _ 1) n
  all_goals omega

/-! ## Bounds (R41, R51, R59) -/

/-- A new entry leaves one of its kind where there was none or one, and every other kind as it was (R59). -/
theorem foldEntry_filter {same : OutEntry → Bool} {e : OutEntry} (he : same e = true) (entries : List OutEntry) :
    ((foldEntry same e entries).filter same).length = max 1 (entries.filter same).length := by
  induction entries with
  | nil => simp [foldEntry, he]
  | cons d ds ih =>
    unfold foldEntry
    split
    · next hd => simp [he, hd]
    · next hd => simp [hd, ih]

theorem foldEntry_filter_other {same p : OutEntry → Bool} {e : OutEntry} (he : p e = false)
    (hp : ∀ d, same d = true → p d = false) (entries : List OutEntry) :
    (foldEntry same e entries).filter p = entries.filter p := by
  induction entries with
  | nil => simp [foldEntry, he]
  | cons d ds ih =>
    unfold foldEntry
    split
    · next hd => simp [he, hp d hd]
    · simp [List.filter_cons, ih]

/-- The bounds on the outbound queue: one mark and one lamp entry per address (R59). -/
def EntriesBounded (entries : List OutEntry) : Prop :=
  (entries.filter (·.isMark)).length ≤ 1 ∧ ∀ addr, (entries.filter (OutEntry.isLampOf addr)).length ≤ 1

theorem EntriesBounded.queueMark {entries : List OutEntry} (h : EntriesBounded entries) (v : Mark) :
    EntriesBounded (foldEntry OutEntry.isMark (.mark v) entries) := by
  obtain ⟨hmark, hlamp⟩ := h
  refine ⟨?_, fun addr => ?_⟩
  · exact (foldEntry_filter (same := OutEntry.isMark) (e := .mark v) rfl entries).le.trans (max_le (Nat.le_refl 1) hmark)
  · rw [foldEntry_filter_other rfl fun d hd => ?_]
    · exact hlamp addr
    · cases d with
      | mark => rfl
      | lamp => cases hd

theorem EntriesBounded.queueLamp {entries : List OutEntry} (h : EntriesBounded entries) (addr : LocalAddr) (v : Lamp) :
    EntriesBounded (foldEntry (OutEntry.isLampOf addr) (.lamp addr v) entries) := by
  obtain ⟨hmark, hlamp⟩ := h
  refine ⟨?_, fun other => ?_⟩
  · rw [foldEntry_filter_other rfl fun d hd => ?_]
    · exact hmark
    · cases d with
      | mark => cases hd
      | lamp => rfl
  · by_cases e : other = addr
    · subst e
      have := foldEntry_filter (same := OutEntry.isLampOf other) (e := .lamp other v) (by simp [OutEntry.isLampOf]) entries
      have := hlamp other
      omega
    · rw [foldEntry_filter_other (by simp [OutEntry.isLampOf, Ne.symm e]) fun d hd => ?_]
      · exact hlamp other
      · cases d with
        | mark => rfl
        | lamp a => simp only [OutEntry.isLampOf, decide_eq_true_eq] at hd ⊢; simp [hd, Ne.symm e]

theorem EntriesBounded.of_sublist {entries entries' : List OutEntry} (h : EntriesBounded entries)
    (hsub : entries'.Sublist entries) : EntriesBounded entries' :=
  ⟨((hsub.filter _).length_le).trans h.1, fun addr => ((hsub.filter _).length_le).trans (h.2 addr)⟩

theorem Line.bounded_iff : l.Bounded n ↔ l.queue.length ≤ 16 ∧
    (∀ f ∈ l.queue, lineOf f.seat = n ∧ f.key < 16 ∧ f.age < 128) ∧ l.rehold ≤ 15 ∧ EntriesBounded l.entries ∧
      AssemblerBounded l.assembler := by
  simp only [Line.Bounded, EntriesBounded, AssemblerBounded, and_assoc]

/-- A kick takes at most the first entry of the outbound queue (R60). -/
theorem Line.kick_entries_sublist (l : Line) : l.kick.entries.Sublist l.entries := by
  unfold Line.kick
  split
  · exact .refl _
  · next heq => rw [heq]; exact List.sublist_cons_self _ _
  · exact .refl _

theorem Line.Bounded.kick (h : l.Bounded n) : l.kick.Bounded n := by
  obtain ⟨hlen, hframes, hrehold, hentries, hassembler⟩ := Line.bounded_iff.mp h
  have hqueue : l.kick.queue = l.queue ∧ l.kick.rehold = l.rehold ∧ l.kick.assembler = l.assembler := by
    unfold Line.kick; split <;> exact ⟨rfl, rfl, rfl⟩
  obtain ⟨hq, hr, ha⟩ := hqueue
  rw [Line.bounded_iff, hq, hr, ha]
  exact ⟨hlen, hframes, hrehold, hentries.of_sublist l.kick_entries_sublist, hassembler⟩

theorem Line.Bounded.countRehold (h : l.Bounded n) {every : Nat} (hevery : every ≤ 16) : (l.countRehold every).Bounded n := by
  obtain ⟨hlen, hframes, -, hentries, hassembler⟩ := Line.bounded_iff.mp h
  unfold Line.countRehold
  split
  · exact Line.bounded_iff.mpr ⟨hlen, hframes, Nat.zero_le _, hentries, hassembler⟩
  · exact Line.bounded_iff.mpr ⟨hlen, hframes, by dsimp only; omega, hentries, hassembler⟩

theorem LineOp.bounded {enabled : Bool} {upper lower : Nat} (h : LineOp enabled upper lower n l m) (hl : l.Bounded n) :
    m.Bounded n := by
  obtain ⟨hlen, hframes, hrehold, hentries, hassembler⟩ := Line.bounded_iff.mp hl
  cases h with
  | lamp addr v => exact Line.bounded_iff.mpr ⟨hlen, hframes, hrehold, hentries.queueLamp addr v, hassembler⟩
  | mark v => exact Line.bounded_iff.mpr ⟨hlen, hframes, hrehold, hentries.queueMark v, hassembler⟩
  | dropLamps =>
    exact Line.bounded_iff.mpr ⟨hlen, hframes, hrehold, hentries.of_sublist List.filter_sublist, hassembler⟩
  | kick => exact hl.kick
  | frameEnd | receiver => exact hl
  | take =>
    have htaken : Line.Bounded n { l with queue := l.queue.tail } :=
      Line.bounded_iff.mpr ⟨by rw [List.length_tail]; omega, fun f hf => hframes f (List.mem_of_mem_tail hf), hrehold,
        hentries, hassembler⟩
    unfold Line.take
    dsimp only
    split
    · obtain ⟨hlen, hframes, -, hentries, hassembler⟩ := Line.bounded_iff.mp htaken
      exact Line.bounded_iff.mpr ⟨hlen, hframes, Nat.zero_le _, hentries, hassembler⟩
    · exact htaken
  | assembler _ _ hv => exact Line.bounded_iff.mpr ⟨hlen, hframes, hrehold, hentries, hv hassembler⟩
  | @join f _ every _ hroom hevery hf =>
    have hjoined : Line.Bounded n { l with queue := l.queue ++ [f] } := by
      refine Line.bounded_iff.mpr ⟨?_, fun g hg => ?_, hrehold, hentries, hassembler⟩
      · rw [List.length_append, List.length_singleton]; omega
      · rcases List.mem_append.mp hg with hg | hg
        · exact hframes g hg
        · rw [List.mem_singleton.mp hg]; exact hf
    unfold Line.join
    dsimp only
    split
    · exact hjoined.countRehold hevery
    · split
      · obtain ⟨hlen, hframes, -, hentries, hassembler⟩ := Line.bounded_iff.mp hjoined
        exact Line.bounded_iff.mpr ⟨hlen, hframes, Nat.zero_le _, hentries, hassembler⟩
      · exact hjoined
  | overrun _ _ hevery =>
    unfold Line.overrun
    split
    · exact hl.countRehold hevery
    · exact hl
  | rest => exact Line.bounded_iff.mpr ⟨hlen, hframes, hrehold, hentries, by rintro p ⟨⟩⟩
  | session =>
    have hflushed (v : Option Flow) (held : Bool) (rehold : Nat) : Line.Bounded n
        (({ l with queue := [], flow := v, held := held, rehold := 0 } : Line).dropLamps.queueMark .closed) :=
      Line.bounded_iff.mpr ⟨Nat.zero_le _, by rintro f ⟨⟩, Nat.zero_le _,
        (hentries.of_sublist List.filter_sublist).queueMark .closed, hassembler⟩
    unfold Line.sessionReset
    dsimp only
    split
    · exact hflushed _ _ 0
    · exact hflushed _ _ 0

theorem LineOps.bounded {enabled : Bool} {upper lower : Nat} (h : LineOps enabled upper lower n l m) (hl : l.Bounded n) :
    m.Bounded n := by
  induction h with
  | refl => exact hl
  | tail _ hlast ih => exact hlast.bounded ih

theorem Line.initial_bounded (n : LineNo) (v : Option DownFrame) : Line.Bounded n { Line.initial with sending := v } :=
  Line.bounded_iff.mpr ⟨Nat.zero_le _, by rintro f ⟨⟩, Nat.zero_le _, ⟨Nat.zero_le _, fun _ => Nat.zero_le _⟩, by rintro p ⟨⟩⟩

theorem Line.Bounded.applyThresholds (h : l.Bounded n) (upper lower : Nat) : (l.applyThresholds upper lower).Bounded n := by
  obtain ⟨hlen, hframes, -, hentries, hassembler⟩ := Line.bounded_iff.mp h
  unfold Line.applyThresholds
  split
  · split
    · exact Line.bounded_iff.mpr ⟨hlen, hframes, Nat.zero_le _, hentries, hassembler⟩
    · exact h
  · split
    · exact Line.bounded_iff.mpr ⟨hlen, hframes, Nat.zero_le _, hentries, hassembler⟩
    · exact h

theorem Line.Bounded.seatsWritten (h : l.Bounded n) (old new : Nat) : (l.seatsWritten old new).Bounded n := by
  unfold Line.seatsWritten
  split
  · exact Line.initial_bounded n _
  · split
    · exact Line.bounded_iff.mpr ⟨Nat.zero_le _, by rintro f ⟨⟩, Nat.zero_le _,
        (show EntriesBounded [] from ⟨Nat.zero_le _, fun _ => Nat.zero_le _⟩).queueMark .closed, by rintro p ⟨⟩⟩
    · exact h

theorem Line.Bounded.rateWritten (h : l.Bounded n) : l.rateWritten.Bounded n := by
  obtain ⟨hlen, hframes, hrehold, hentries, -⟩ := Line.bounded_iff.mp h
  exact Line.bounded_iff.mpr ⟨hlen, hframes, hrehold, hentries, by rintro p ⟨⟩⟩

theorem writeRule_bounded (r : RuleId) (v : Nat) (h : (s.line n).Bounded n) : ((writeRule r v s).line n).Bounded n := by
  rcases rule_cases r with ⟨m, rfl⟩ | rfl | ⟨hlow, hhigh⟩ | hother
  · rw [writeRule_line_of_lineSeats]
    split
    · exact h.seatsWritten _ _
    · exact h
  · rw [writeRule_line_of_seatRate]
    split
    · exact h.rateWritten
    · exact h
  · rw [writeRule_line_of_threshold hlow hhigh]
    split
    · exact h.applyThresholds _ _
    · exact h
  · rw [writeRule_line_of_other hother]; exact h

theorem bounded_of_write (h : Write s t) (hs : ∀ n, (s.line n).Bounded n) : ∀ n, (t.line n).Bounded n := by
  intro n
  rcases lines_of_write h with ⟨-, hline⟩ | hinitial | ⟨r, v, rfl⟩
  · exact (hline n).bounded (hs n)
  · rw [hinitial]; exact Line.initial_bounded n none
  · exact writeRule_bounded r _ (hs n)

/-! ## Busy transmitters (R60) -/

theorem Line.kick_busy (l : Line) : l.kick.sending = none → l.kick.outboundCount = 0 := by
  unfold Line.kick
  split
  · rintro ⟨⟩
  · rintro ⟨⟩
  · next hflow hentries =>
    intro hidle
    cases hf : l.flow with
    | some f => exact absurd hf (hflow f hidle)
    | none =>
      cases he : l.entries with
      | nil => simp [Line.outboundCount, hf, he]
      | cons e rest => exact absurd he (hentries e rest hidle hf)

/-- The end of an event leaves no transmitter idle over a queue (R60). -/
theorem endEvent_busy (before s : State) : TransmittersBusy (endEvent before s) := by
  intro n
  rw [endEvent_line]
  split <;> exact Line.kick_busy _

/-- While the device works, its transmitters are busy. -/
def BusyWhilePowered (s : State) : Prop := s.powered = true → TransmittersBusy s

theorem BusyWhilePowered.of_lines (hs : BusyWhilePowered s) (hphase : t.phase = s.phase) (hlines : t.lines = s.lines) :
    BusyWhilePowered t := by
  unfold BusyWhilePowered TransmittersBusy State.powered State.line
  rw [hphase, hlines]
  exact hs

theorem BusyWhilePowered.of_boards (hs : BusyWhilePowered s) (h : t.outsideBoards = s.outsideBoards) :
    BusyWhilePowered t := hs.of_lines (State.phase_of_boards h) (State.lines_of_boards h)

theorem busyWhilePowered_endEvent (before s : State) : BusyWhilePowered (endEvent before s) :=
  fun _ => endEvent_busy before s

theorem BusyWhilePowered.setLine (hs : BusyWhilePowered s) (n : LineNo) {l : Line}
    (hl : l.sending = none → l.outboundCount = 0) : BusyWhilePowered (s.setLine n l) := fun hpowered m => by
  rw [State.setLine_line]
  split
  · exact hl
  · exact hs hpowered m

theorem windowEnd_busy (hs : BusyWhilePowered s) : BusyWhilePowered (windowEnd s) := by
  unfold windowEnd
  split
  · exact hs
  · exact hs

theorem settlingEnd_busy (hs : BusyWhilePowered s) : BusyWhilePowered (settlingEnd s) := by
  unfold settlingEnd
  split
  · exact busyWhilePowered_endEvent _ _
  · exact hs

theorem callEvent_busy (hs : BusyWhilePowered s) : BusyWhilePowered (callEvent s) := by
  unfold callEvent
  split
  · exact busyWhilePowered_endEvent _ _
  · exact hs

theorem judgeDeadlineEvent_busy (hs : BusyWhilePowered s) : BusyWhilePowered (judgeDeadlineEvent s) := by
  unfold judgeDeadlineEvent
  split
  · split
    · exact busyWhilePowered_endEvent _ _
    · exact hs
  · exact hs

theorem controllerEvent_busy (hs : BusyWhilePowered s) : BusyWhilePowered (controllerEvent s) := by
  unfold controllerEvent
  split
  · exact windowEnd_busy hs
  · exact settlingEnd_busy hs

theorem ladderEvent_busy (hs : BusyWhilePowered s) : BusyWhilePowered (ladderEvent s) := by
  unfold ladderEvent
  split
  · exact callEvent_busy hs
  · exact judgeDeadlineEvent_busy hs

theorem takeDueEvents_busy (hs : BusyWhilePowered s) : BusyWhilePowered (takeDueEvents s) := by
  have hcounted : BusyWhilePowered { s with freeIndex := s.freeIndex + 1 } := hs
  unfold takeDueEvents
  dsimp only
  split
  · split
    · exact controllerEvent_busy (ladderEvent_busy hcounted)
    · exact ladderEvent_busy (controllerEvent_busy hcounted)
  · exact ladderEvent_busy (controllerEvent_busy hs)

theorem busy_of_service (h : Service s t) (hs : BusyWhilePowered s) : BusyWhilePowered t := by
  cases h with
  | unchanged => exact hs
  | clearNotices | recallTeam | purgeTeam | closeRound | storeKey | storeRules => exact hs
  | resetSession | benchTeam | retireTeam | bindSeat | unbindSeat | openRound | abandonRound | scoreKey | judge | setRule =>
    exact busyWhilePowered_endEvent _ _
  | enrolTeam =>
    exact hs.of_lines ((State.phase_of_boards (updateStandings_spec _)).trans rfl) (updateStandings_lines _)
  | renameTeam =>
    unfold renameTeam; dsimp only; split
    · exact hs.of_lines ((State.phase_of_boards (updateStandings_spec _)).trans rfl) (updateStandings_lines _)
    · exact hs
  | @changeScore x _ wanted =>
    have hframe := writeScore_frame s x { s.team x with score := clampScore wanted }
    exact hs.of_lines (State.phase_of_scores hframe) (State.lines_of_scores hframe)
  | @setConfig b v =>
    intro hpowered n
    have hphase := congrArg State.powered (writeRule_outside (Rule.boardCfg b) v s)
    rw [writeRule_line_of_other (.inr (by simp only [Rule.boardCfg]; omega))]
    exact hs (hphase.symm.trans hpowered) n
  | setMessage b text => exact hs.of_boards (storeMessage_frame b text s)

theorem busy_of_event (h : Event s t) (hs : BusyWhilePowered s) : BusyWhilePowered t := by
  cases h with
  | port h =>
    have hphase := congrArg State.phase h
    have hlines := congrArg State.lines h
    exact hs.of_lines hphase hlines
  | powerOn =>
    unfold powerOn; split
    · rintro ⟨⟩
    · exact hs
  | powerLoss =>
    unfold powerLoss; split
    · exact hs
    · rintro ⟨⟩
  | resetPinLow =>
    unfold resetPinLow; split
    · exact hs
    · rintro ⟨⟩
  | startUp =>
    unfold startUp; split
    · intro _ n
      simp [State.line, State.powerOnValues, Line.initial, Line.outboundCount]
    · exact hs
  | startUpEnd =>
    by_cases hphase : s.phase = .startUp
    · intro _ n
      rw [startUpEnd_lines hphase]
      exact Line.kick_busy _
    · unfold startUpEnd; rw [if_neg hphase]; exact hs
  | revealPinChange => exact hs
  | revealLevelTaken =>
    exact hs.of_lines ((State.phase_of_boards (revealLevelTaken_frame s)).trans rfl)
      ((State.lines_of_boards (revealLevelTaken_frame s)).trans rfl)
  | storeComplete => unfold storeComplete; split <;> exact hs
  | recallFinished =>
    unfold finishRecall; split
    · exact busyWhilePowered_endEvent _ _
    · exact hs
  | watchdogExpiry =>
    unfold watchdogExpiry
    split
    · split
      · dsimp only
        split
        · exact busyWhilePowered_endEvent _ _
        · exact hs
      · exact hs
    · exact hs
    · exact hs
  | startEdge n b =>
    unfold startEdge; split
    · next h => exact hs.setLine n (hs h.1 n)
    · exact hs
  | gapLimit n =>
    unfold gapLimit; split
    · next h => exact hs.setLine n (hs h.1 n)
    · exact hs
  | characterEnd n c =>
    unfold characterEnd
    split
    · split
      · exact busyWhilePowered_endEvent _ _
      · exact hs
    · exact hs
  | seatTableTake n =>
    unfold seatTableTake
    split
    · exact hs
    · split
      · exact busyWhilePowered_endEvent _ _
      · exact hs
  | housekeepingExpiry =>
    have hphase := congrArg State.phase (housekeepingExpiry_outside s)
    have hlines := congrArg State.lines (housekeepingExpiry_outside s)
    exact hs.of_lines hphase hlines
  | downstreamFrameEnd n =>
    unfold downstreamFrameEnd; split
    · exact hs.setLine n (Line.kick_busy _)
    · exact hs
  | roundClockStep =>
    unfold roundClockStep
    dsimp only
    split
    · split
      · exact takeDueEvents_busy hs
      · exact takeDueEvents_busy hs
    · exact hs
  | windowEnd => exact windowEnd_busy hs
  | settlingEnd => exact settlingEnd_busy hs
  | callEvent => exact callEvent_busy hs
  | judgeDeadlineEvent => exact judgeDeadlineEvent_busy hs
  | transferEnd b => exact hs.of_boards (transferEnd_frame s b)
  | requestTaken =>
    exact hs.of_lines ((State.phase_of_boards (requestTaken_frame s)).trans rfl)
      ((State.lines_of_boards (requestTaken_frame s)).trans rfl)
  | service h => exact busy_of_service h hs

theorem linesBounded_of_event (h : Event s t) (hs : LinesBounded s) : LinesBounded t := by
  refine ⟨?_, busy_of_event h hs.2⟩
  have hwrites := writes_of_event h
  have hbounded := hs.1
  clear h hs
  induction hwrites with
  | refl => exact hbounded
  | tail _ hlast ih => exact bounded_of_write hlast ih

/-- Settles O7. -/
theorem linesStayBounded : Obligations.LinesStayBounded :=
  keptByStep_of_events (fun _ _ h => h) fun _ _ => linesBounded_of_event

end Sys2Proof.Machine
end

section
/-! PROOFS. Every step keeps disabled lines empty (R48) and the flow states in step with the thresholds (R53, R55, R56). -/

namespace Sys2Proof.Machine

variable {s t : State} {n : LineNo} {l m : Line} {upper lower : Nat}

/-- The flow state of a line agrees with its queue under the thresholds (R53, R55). -/
def Line.FlowAgrees (upper lower : Nat) (l : Line) : Prop :=
  if l.held then lower < l.queue.length else l.queue.length < upper

/-- A line as it stands under its rules: empty when it is disabled, and its flow state in step (R48, R56). -/
def Line.InOrder (enabled : Bool) (upper lower : Nat) (l : Line) : Prop :=
  (enabled = false → l.Empty) ∧ l.FlowAgrees upper lower

theorem linesInOrder_iff : LinesInOrder s ↔
    RulesInRange s ∧
      ∀ n, (s.line n).InOrder (s.lineEnabled n) (s.rule Rule.holdUpper) (s.rule Rule.holdLower) :=
  ⟨fun ⟨hrules, hempty, hflow⟩ => ⟨hrules, fun n => ⟨hempty n, hflow n⟩⟩,
    fun ⟨hrules, hlines⟩ => ⟨hrules, fun n => (hlines n).1, fun n => (hlines n).2⟩⟩

theorem Line.flowAgrees_of_held (h : l.held = true) : l.FlowAgrees upper lower ↔ lower < l.queue.length := by
  simp [Line.FlowAgrees, h]

theorem Line.flowAgrees_of_normal (h : l.held = false) : l.FlowAgrees upper lower ↔ l.queue.length < upper := by
  simp [Line.FlowAgrees, h]

/-- The flow state and the queue are all that the thresholds look at. -/
theorem Line.FlowAgrees.of_same (h : l.FlowAgrees upper lower) (hheld : m.held = l.held) (hqueue : m.queue = l.queue) :
    m.FlowAgrees upper lower := by
  unfold Line.FlowAgrees
  rw [hheld, hqueue]
  exact h

/-- An enabled line in order after an operation on it. -/
theorem Line.InOrder.of_enabled {enabled : Bool} (h : enabled = true) (hflow : l.FlowAgrees upper lower) :
    l.InOrder enabled upper lower := ⟨fun e => absurd (h.symm.trans e) (by decide), hflow⟩

theorem Line.kick_held (l : Line) : l.kick.held = l.held ∧ l.kick.queue = l.queue := by
  unfold Line.kick; split <;> exact ⟨rfl, rfl⟩

theorem Line.Empty.kick (h : l.Empty) : l.kick.Empty := by
  obtain ⟨hreceiver, hassembler, hqueue, hheld, hrehold, hflow, hentries⟩ := h
  rw [Line.kick_of_busy fun _ => by simp [Line.outboundCount, hflow, hentries]]
  exact ⟨hreceiver, hassembler, hqueue, hheld, hrehold, hflow, hentries⟩

theorem Line.countRehold_held (every : Nat) (l : Line) :
    (l.countRehold every).held = l.held ∧ (l.countRehold every).queue = l.queue := by
  unfold Line.countRehold; split <;> exact ⟨rfl, rfl⟩

theorem Line.FlowAgrees.take (h : l.FlowAgrees upper lower) (hlt : lower < upper) :
    (l.take lower).FlowAgrees upper lower := by
  unfold Line.take
  dsimp only
  split
  · next hreleased => exact (Line.flowAgrees_of_normal rfl).mpr (Nat.lt_of_le_of_lt hreleased.2 hlt)
  · next hkept =>
    by_cases hheld : l.held = true
    · simp only [hheld, true_and, not_le] at hkept
      exact (Line.flowAgrees_of_held (l := { l with queue := l.queue.tail }) hheld).mpr hkept
    · have hnormal : l.held = false := by simpa using hheld
      have hlen := (Line.flowAgrees_of_normal hnormal).mp h
      refine (Line.flowAgrees_of_normal (l := { l with queue := l.queue.tail }) hnormal).mpr ?_
      rw [List.length_tail]
      omega

theorem Line.FlowAgrees.join (h : l.FlowAgrees upper lower) (hlt : lower < upper) (every : Nat) (f : SeatFrame) :
    (l.join upper every f).FlowAgrees upper lower := by
  have hlength : (l.queue ++ [f]).length = l.queue.length + 1 := List.length_append
  unfold Line.join
  dsimp only
  split
  · next hheld =>
    obtain ⟨hheld', hqueue'⟩ := Line.countRehold_held every { l with queue := l.queue ++ [f] }
    have hlower := (Line.flowAgrees_of_held hheld).mp h
    rw [Line.flowAgrees_of_held (hheld'.trans hheld), hqueue']
    dsimp only
    omega
  · next hnormal =>
    split
    · next hfull =>
      refine (Line.flowAgrees_of_held rfl).mpr ?_
      exact Nat.lt_of_lt_of_le hlt hfull
    · next hroom =>
      exact (Line.flowAgrees_of_normal (by simpa using hnormal)).mpr (Nat.not_le.mp hroom)

theorem Line.applyThresholds_flowAgrees (hlt : lower < upper) (l : Line) :
    (l.applyThresholds upper lower).FlowAgrees upper lower := by
  unfold Line.applyThresholds
  split
  · next hheld =>
    split
    · next hlow => exact (Line.flowAgrees_of_normal rfl).mpr (Nat.lt_of_le_of_lt hlow hlt)
    · next hlow => exact (Line.flowAgrees_of_held hheld).mpr (Nat.not_le.mp hlow)
  · next hnormal =>
    split
    · next hhigh => exact (Line.flowAgrees_of_held rfl).mpr (Nat.lt_of_lt_of_le hlt hhigh)
    · next hhigh => exact (Line.flowAgrees_of_normal (by simpa using hnormal)).mpr (Nat.not_le.mp hhigh)

theorem LineOp.inOrder {enabled : Bool} (h : LineOp enabled upper lower n l m) (hlt : lower < upper)
    (hl : l.InOrder enabled upper lower) : m.InOrder enabled upper lower := by
  obtain ⟨hempty, hflow⟩ := hl
  cases h with
  | lamp _ _ _ h | mark _ _ h | receiver _ _ h | assembler _ h => exact .of_enabled h (hflow.of_same rfl rfl)
  | dropLamps =>
    refine ⟨fun e => ?_, hflow.of_same rfl rfl⟩
    obtain ⟨hreceiver, hassembler, hqueue, hheld, hrehold, hout, hentries⟩ := hempty e
    exact ⟨hreceiver, hassembler, hqueue, hheld, hrehold, hout, by simp [Line.dropLamps, hentries]⟩
  | kick => exact ⟨fun e => (hempty e).kick, hflow.of_same l.kick_held.1 l.kick_held.2⟩
  | frameEnd => exact ⟨hempty, hflow.of_same rfl rfl⟩
  | take hqueued => exact ⟨fun e => absurd (hempty e).2.2.1 hqueued, hflow.take hlt⟩
  | join h => exact .of_enabled h (hflow.join hlt _ _)
  | overrun _ h =>
    refine .of_enabled h ?_
    unfold Line.overrun
    split
    · exact hflow.of_same (Line.countRehold_held _ l).1 (Line.countRehold_held _ l).2
    · exact hflow
  | rest =>
    refine ⟨fun e => ?_, hflow.of_same rfl rfl⟩
    obtain ⟨-, -, hqueue, hheld, hrehold, hout, hentries⟩ := hempty e
    exact ⟨rfl, rfl, hqueue, hheld, hrehold, hout, hentries⟩
  | session _ h =>
    have hupper : 0 < upper := by omega
    refine .of_enabled h ?_
    have hreset : l.sessionReset.held = false ∧ l.sessionReset.queue = [] := by
      unfold Line.sessionReset
      cases hheld : l.held <;> simp [Line.release, Line.dropLamps, Line.queueMark, Line.queueFlow]
    rw [Line.flowAgrees_of_normal hreset.1, hreset.2]
    exact hupper

theorem LineOps.inOrder {enabled : Bool} (h : LineOps enabled upper lower n l m) (hlt : lower < upper)
    (hl : l.InOrder enabled upper lower) : m.InOrder enabled upper lower := by
  induction h with
  | refl => exact hl
  | tail _ hlast ih => exact hlast.inOrder hlt ih

theorem Line.initial_inOrder (hlt : lower < upper) (enabled : Bool) (v : Option DownFrame) :
    Line.InOrder enabled upper lower { Line.initial with sending := v } :=
  ⟨fun _ => ⟨rfl, rfl, rfl, rfl, rfl, rfl, rfl⟩, (Line.flowAgrees_of_normal rfl).mpr (Nat.zero_lt_of_lt hlt)⟩

/-- An empty line is in order under any thresholds. -/
theorem Line.Empty.inOrder (h : l.Empty) (hlt : lower < upper) (enabled : Bool) : l.InOrder enabled upper lower := by
  obtain ⟨-, -, hqueue, hheld, -⟩ := id h
  refine ⟨fun _ => h, (Line.flowAgrees_of_normal hheld).mpr ?_⟩
  rw [hqueue]
  exact Nat.zero_lt_of_lt hlt

theorem Line.seatsWritten_inOrder (hlt : lower < upper) {old : Nat} (new : Nat)
    (hl : l.InOrder (decide (old ≠ 0)) upper lower) :
    (l.seatsWritten old new).InOrder (decide (new ≠ 0)) upper lower := by
  unfold Line.seatsWritten
  split
  · exact Line.initial_inOrder hlt _ _
  · next hnot =>
    split
    · next h =>
      refine .of_enabled (by simpa using h.2) ((Line.flowAgrees_of_normal rfl).mpr ?_)
      exact Nat.zero_lt_of_lt hlt
    · next hnot' =>
      have hsame : decide (new ≠ 0) = decide (old ≠ 0) := by
        rw [decide_eq_decide]; tauto
      rw [hsame]; exact hl

theorem thresholds_of_writeRule {r : RuleId} (h : ¬(17 ≤ r.val ∧ r.val ≤ 19)) (v : Nat) (s : State) :
    (writeRule r v s).rule Rule.holdUpper = s.rule Rule.holdUpper ∧
      (writeRule r v s).rule Rule.holdLower = s.rule Rule.holdLower := by
  have hupper : r ≠ Rule.holdUpper := fun e => h (by rw [e]; decide)
  have hlower : r ≠ Rule.holdLower := fun e => h (by rw [e]; decide)
  simp [writeRule_rule, hupper.symm, hlower.symm, hupper]

/-- The write of a clamped rule leaves every line in order (R49, R56). -/
theorem writeRule_inOrder (r : RuleId) (v : Nat) (hs : LinesInOrder s) :
    LinesInOrder (writeRule r (clampRule (s.rule Rule.holdUpper) r v) s) := by
  obtain ⟨hrules, hlines⟩ := linesInOrder_iff.mp hs
  have hwritten := writeRule_inRange hrules r v
  refine linesInOrder_iff.mpr ⟨hwritten, fun n => ?_⟩
  generalize clampRule (s.rule Rule.holdUpper) r v = w at hwritten ⊢
  obtain ⟨hempty, hflow⟩ := hlines n
  rcases rule_cases r with ⟨m, rfl⟩ | rfl | ⟨hlow, hhigh⟩ | hother
  · obtain ⟨hupper, hlower⟩ := thresholds_of_writeRule (r := Rule.lineSeats m)
      (fun h => by simp only [Rule.lineSeats] at h; omega) w s
    rw [writeRule_line_of_lineSeats, hupper, hlower]
    split
    · next e =>
      subst e
      rw [State.lineEnabled, writeRule_lineSeats_rule]
      exact Line.seatsWritten_inOrder hrules.holdLower w ⟨hempty, hflow⟩
    · next e =>
      rw [writeRule_lineEnabled_of_ne fun h => e (lineSeats_inj.mp h.symm)]
      exact ⟨hempty, hflow⟩
  · obtain ⟨hupper, hlower⟩ := thresholds_of_writeRule (r := Rule.seatRate) (by decide) w s
    rw [writeRule_line_of_seatRate, writeRule_lineEnabled_of_ne (lineSeats_ne (.inr (by decide)) n), hupper, hlower]
    split
    · next henabled => exact .of_enabled henabled (Line.FlowAgrees.of_same hflow rfl rfl)
    · exact ⟨hempty, hflow⟩
  · rw [writeRule_line_of_threshold hlow hhigh, writeRule_lineEnabled_of_ne (lineSeats_ne (.inr (by omega)) n)]
    split
    · next henabled => exact .of_enabled henabled (Line.applyThresholds_flowAgrees hwritten.holdLower _)
    · next hdisabled => exact (hempty (by simpa using hdisabled)).inOrder hwritten.holdLower _
  · obtain ⟨hupper, hlower⟩ := thresholds_of_writeRule (r := r) (fun h => by omega) w s
    rw [writeRule_line_of_other hother, writeRule_lineEnabled_of_ne (lineSeats_ne (by omega) n), hupper, hlower]
    exact ⟨hempty, hflow⟩

theorem linesInOrder_of_write (h : Write s t) (hs : LinesInOrder s) : LinesInOrder t := by
  obtain ⟨hrules, hlines⟩ := linesInOrder_iff.mp hs
  have hrules' := rulesInRange_of_write h hrules
  rcases lines_of_write h with ⟨hsame, hline⟩ | hinitial | ⟨r, v, rfl⟩
  · refine linesInOrder_iff.mpr ⟨hrules', fun n => ?_⟩
    have hops := (hline n).inOrder hrules.holdLower (hlines n)
    rw [State.lineEnabled, State.rule, State.rule, State.rule, hsame]
    exact hops
  · refine linesInOrder_iff.mpr ⟨hrules', fun n => ?_⟩
    rw [hinitial]
    exact Line.initial_inOrder hrules'.holdLower _ none
  · exact writeRule_inOrder r v hs

/-- Settles O8. -/
theorem linesStayInOrder : Obligations.LinesStayInOrder :=
  keptByStep_of_writes (fun _ _ h => h) fun _ _ => linesInOrder_of_write

end Sys2Proof.Machine
end

section
/-! PROOFS. The claims of a ladder in order (R97 to R99), and what re-arming the call makes of it (R72, R73, R107). -/

namespace Sys2Proof.Machine

variable {s t u : State} {c d : Claim} {x : TeamNo}

/-! ## Order (R98, R99) -/

/-- Two teams with one tie position are one team (R99). -/
theorem tiePosition_inj {tieStart x y : TeamNo} (h : tiePosition tieStart x = tiePosition tieStart y) : x = y := by
  unfold tiePosition at h
  refine Fin.ext ?_
  omega

/-- A ladder in order: one claim a team, and none CALLED behind the head (R98, R99). -/
abbrev ClaimsInOrder (tieStart : TeamNo) (ladder : List Claim) : Prop := ladder.Pairwise (Claim.Before tieStart)

section
variable {tieStart : TeamNo} {ladder rest : List Claim}

theorem ClaimsInOrder.rest_waiting (h : ClaimsInOrder tieStart (c :: rest)) (hd : d ∈ rest) : d.called = false :=
  ((List.pairwise_cons.mp h).1 d hd).2.1

theorem ClaimsInOrder.rest_team (h : ClaimsInOrder tieStart (c :: rest)) (hd : d ∈ rest) : c.team ≠ d.team :=
  ((List.pairwise_cons.mp h).1 d hd).1

/-- A team holds one claim at most (R98). -/
theorem ClaimsInOrder.eq_of_team (h : ClaimsInOrder tieStart ladder) (hc : c ∈ ladder) (hd : d ∈ ladder)
    (hteam : c.team = d.team) : c = d := by
  induction ladder with
  | nil => cases hc
  | cons e rest ih =>
    rcases List.mem_cons.mp hc with rfl | hc'
    · rcases List.mem_cons.mp hd with rfl | hd'
      · rfl
      · exact absurd hteam (h.rest_team hd')
    · rcases List.mem_cons.mp hd with rfl | hd'
      · exact absurd hteam.symm (h.rest_team hc')
      · exact ih (List.pairwise_cons.mp h).2 hc' hd'

/-- A CALLED claim is the head (R98). -/
theorem ClaimsInOrder.head_of_called (h : ClaimsInOrder tieStart ladder) (hc : c ∈ ladder) (hcalled : c.called = true) :
    ladder.head? = some c := by
  cases ladder with
  | nil => cases hc
  | cons e rest =>
    rcases List.mem_cons.mp hc with rfl | hc'
    · rfl
    · rw [h.rest_waiting hc'] at hcalled; cases hcalled

theorem ClaimsInOrder.filter (h : ClaimsInOrder tieStart ladder) (p : Claim → Bool) :
    ClaimsInOrder tieStart (ladder.filter p) := h.sublist List.filter_sublist

/-- The claims that stand before and behind the place of a WAITING claim (R104). -/
theorem placeClaim_eq (tieStart : TeamNo) (c : Claim) (ladder : List Claim) :
    ∃ k ≤ ladder.length, placeClaim tieStart c ladder = ladder.take k ++ c :: ladder.drop k := by
  induction ladder with
  | nil => exact ⟨0, Nat.le_refl 0, rfl⟩
  | cons d ds ih =>
    unfold placeClaim
    split
    · obtain ⟨k, hk, hplaced⟩ := ih
      exact ⟨k + 1, Nat.succ_le_succ hk, by rw [hplaced]; rfl⟩
    · exact ⟨0, Nat.zero_le _, rfl⟩

theorem mem_placeClaim : d ∈ placeClaim tieStart c ladder ↔ d = c ∨ d ∈ ladder := by
  obtain ⟨k, -, h⟩ := placeClaim_eq tieStart c ladder
  have hladder : d ∈ ladder ↔ d ∈ ladder.take k ∨ d ∈ ladder.drop k := by
    rw [← List.mem_append, List.take_append_drop]
  rw [h, List.mem_append, List.mem_cons, hladder]
  tauto

theorem placeClaim_ne_nil : placeClaim tieStart c ladder ≠ [] := fun h =>
  List.not_mem_nil (h ▸ mem_placeClaim.mpr (.inl rfl) : c ∈ [])

/-- Dropping the placed claim's team gives the ladder back. -/
theorem placeClaim_filter (hteam : ∀ d ∈ ladder, d.team ≠ c.team) :
    (placeClaim tieStart c ladder).filter (·.team ≠ c.team) = ladder := by
  obtain ⟨k, -, h⟩ := placeClaim_eq tieStart c ladder
  rw [h, List.filter_append, List.filter_cons_of_neg (by simp), ← List.filter_append, List.take_append_drop]
  exact List.filter_eq_self.mpr fun d hd => by simpa using hteam d hd

/-- A WAITING claim of a team with none takes its place in order (R98, R104). -/
theorem ClaimsInOrder.placeClaim (h : ClaimsInOrder tieStart ladder) (hc : c.called = false)
    (hteam : ∀ d ∈ ladder, d.team ≠ c.team) : ClaimsInOrder tieStart (placeClaim tieStart c ladder) := by
  induction ladder with
  | nil => exact List.pairwise_singleton _ _
  | cons d ds ih =>
    obtain ⟨hd, hds⟩ := List.pairwise_cons.mp h
    have hne : d.team ≠ c.team := hteam d (.head _)
    unfold Machine.placeClaim
    split
    · next hbefore =>
      refine List.pairwise_cons.mpr ⟨fun e he => ?_, ih hds fun e he => hteam e (.tail _ he)⟩
      rcases mem_placeClaim.mp he with rfl | he
      · refine ⟨hne, hc, ?_⟩
        simpa [Claim.standsBefore, or_assoc] using hbefore
      · exact hd e he
    · next hbehind =>
      have hcd : Claim.Before tieStart c d := by
        simp only [Claim.standsBefore, Bool.or_eq_true, decide_eq_true_eq, Bool.and_eq_true, not_or, not_and,
          not_lt, Bool.not_eq_true] at hbehind
        obtain ⟨⟨hwaiting, hoffset⟩, htie⟩ := hbehind
        refine ⟨hne.symm, hwaiting, .inr ?_⟩
        rcases Nat.lt_or_eq_of_le hoffset with hlt | heq
        · exact .inl hlt
        · refine .inr ⟨heq, lt_of_le_of_ne (htie heq.symm) fun e => hne (tiePosition_inj e).symm⟩
      refine List.pairwise_cons.mpr ⟨fun e he => ?_, h⟩
      rcases List.mem_cons.mp he with rfl | he
      · exact hcd
      · obtain ⟨-, hwaiting, hplace⟩ := hd e he
        refine ⟨fun e' => hteam e (.tail _ he) e'.symm, hwaiting, .inr ?_⟩
        obtain ⟨-, hwaits, hcplace⟩ := hcd
        rw [hc] at hcplace
        rw [hwaits] at hplace
        simp only [Bool.false_eq_true, false_or] at hcplace hplace
        omega

end

/-! ## The claims that a state's ladder holds -/

theorem claimOf_eq_some (h : s.claimOf x = some c) : c ∈ s.ladder ∧ c.team = x :=
  ⟨List.mem_of_find?_eq_some h, by simpa using List.find?_some h⟩

theorem claimOf_eq_none : s.claimOf x = none ↔ ∀ d ∈ s.ladder, d.team ≠ x := by
  simp [State.claimOf, List.find?_eq_none]

theorem calledClaim_eq_some (h : s.calledClaim = some c) : c ∈ s.ladder ∧ c.called = true :=
  ⟨List.mem_of_find?_eq_some h, List.find?_some h⟩

/-- On a ladder in order a claim is CALLED exactly when the head is. -/
theorem calledClaim_isSome_iff {head : Claim} {rest : List Claim} (hladder : s.ladder = head :: rest)
    (h : ClaimsInOrder s.round.tieStart s.ladder) : s.calledClaim.isSome = true ↔ head.called = true := by
  rw [State.calledClaim, List.find?_isSome]
  constructor
  · rintro ⟨c, hc, hcalled⟩
    have hhead := h.head_of_called hc hcalled
    rw [hladder] at hhead
    cases hhead
    exact hcalled
  · exact fun hcalled => ⟨head, by rw [hladder]; exact .head _, hcalled⟩

/-! ## Re-arming the call (R72, R107) -/

section
variable {head : Claim} {rest : List Claim}

theorem rearmCall_of_nil (h : s.ladder = []) : rearmCall s = { s with clock := { s.clock with call := none } } := by
  unfold rearmCall; rw [h]

theorem rearmCall_of_called (hladder : s.ladder = head :: rest) (h : ClaimsInOrder s.round.tieStart s.ladder)
    (hcalled : head.called = true) : rearmCall s = { s with clock := { s.clock with call := none } } := by
  unfold rearmCall
  rw [hladder]
  exact if_pos ((calledClaim_isSome_iff hladder h).mpr hcalled)

theorem rearmCall_of_due (hladder : s.ladder = head :: rest) (h : ClaimsInOrder s.round.tieStart s.ladder)
    (hwaiting : head.called = false) (hdue : head.offset + s.copy.callSettle ≤ s.clock.count) :
    rearmCall s = callHead s := by
  have hnone : ¬ s.calledClaim.isSome = true := fun e => by
    rw [calledClaim_isSome_iff hladder h, hwaiting] at e; cases e
  unfold rearmCall
  rw [hladder]
  dsimp only
  rw [if_neg hnone, if_pos hdue]

theorem rearmCall_of_later (hladder : s.ladder = head :: rest) (h : ClaimsInOrder s.round.tieStart s.ladder)
    (hwaiting : head.called = false) (hlater : s.clock.count < head.offset + s.copy.callSettle) :
    rearmCall s = { s with clock := { s.clock with call := some (head.offset + s.copy.callSettle) } } := by
  have hnone : ¬ s.calledClaim.isSome = true := fun e => by
    rw [calledClaim_isSome_iff hladder h, hwaiting] at e; cases e
  unfold rearmCall
  rw [hladder]
  dsimp only
  rw [if_neg hnone, if_neg (by omega)]

/-- The call of the head (R107). -/
theorem callHead_of_cons (hladder : s.ladder = head :: rest) :
    callHead s = (lampWrite head.seat .called
      { s with
        ladder := { head with called := true } :: rest
        clock := { s.clock with call := none, judgeDeadline := some (s.clock.count + s.copy.judgeWindow) } }).setNotice
      .claimCalled := by
  unfold callHead; rw [hladder]

/-- A ladder that is there goes on with the re-arming of the call, and so does one that is not in DRAINING (R86). -/
theorem ladderGoesOn_of_rearm (h : s.ladder ≠ [] ∨ s.round.state ≠ .draining) : ladderGoesOn s = rearmCall s := by
  unfold ladderGoesOn
  refine if_neg fun ⟨hnil, hdraining⟩ => ?_
  rcases h with h | h
  · exact h (List.isEmpty_iff.mp hnil)
  · exact h hdraining

theorem ladderGoesOn_of_drained (h : s.ladder = []) (hdraining : s.round.state = .draining) :
    ladderGoesOn s = closeRound .noWinner s := by
  unfold ladderGoesOn
  exact if_pos ⟨by rw [h]; rfl, hdraining⟩

end

end Sys2Proof.Machine
end

section
/-! PROOFS. The rules by which the operations of a contest keep the round record, the ladder and the unbound seats in
order. -/

namespace Sys2Proof.Machine

variable {s t u : State} {c d : Claim} {x : TeamNo}

/-! ## What the order of a contest rests on -/

/-- The order of a contest, but for the bindings. -/
def ContestCore (s : State) : Prop := RoundInOrder s ∧ LadderInOrder s ∧ UnboundSeatsClear s

/-- The parts of the state that the order of a contest rests on. -/
def State.contestPart (s : State) : State :=
  { State.reset with
    teams := s.teams, seats := s.seats, clock := s.clock, round := s.round, ladder := s.ladder, sheet := s.sheet }

theorem ContestCore.of_part (hs : ContestCore s) (h : t.contestPart = s.contestPart) : ContestCore t := by
  have hpart : ContestCore s.contestPart := hs
  rw [← h] at hpart
  exact hpart

theorem OffsetsInOrder.of_part (hs : OffsetsInOrder s) (h : t.contestPart = s.contestPart) : OffsetsInOrder t := by
  have hpart : OffsetsInOrder s.contestPart := hs
  rw [← h] at hpart
  exact hpart

theorem contestPart_of_boards (h : t.outsideBoards = s.outsideBoards) : t.contestPart = s.contestPart := by
  have e := congrArg State.contestPart h; exact e

theorem contestPart_of_lines (h : t.outsideLines = s.outsideLines) : t.contestPart = s.contestPart := by
  have e := congrArg State.contestPart h; exact e

theorem endEvent_contestPart (before s : State) : (endEvent before s).contestPart = s.contestPart :=
  contestPart_of_lines (endEvent_frame before s)

/-! ## Records that an operation of a contest keeps -/

/-- The round, the count and the window and settling compares stay; locks are set in an active round alone, on bound seats;
seats keep their team; and unbound seats are given no lamp and no answer. -/
structure RecordsKept (s t : State) : Prop where
  round : t.round = s.round
  clock : { t.clock with call := none, judgeDeadline := none } = { s.clock with call := none, judgeDeadline := none }
  teamLock (y : TeamNo) (h : (t.team y).locked = true) : (s.team y).locked = true ∨ s.roundActive = true
  seatLock (i : SeatNo) (h : (t.seat i).locked = true) :
    (s.seat i).locked = true ∨ (s.roundActive = true ∧ (s.seat i).team ≠ none)
  bound (i : SeatNo) : (t.seat i).team = (s.seat i).team
  lamp (i : SeatNo) (h : (s.seat i).team = none) : (t.seat i).lamp = (s.seat i).lamp ∨ (t.seat i).lamp = .idle
  entry (i : SeatNo) (h : (s.seat i).team = none) : t.entry i = s.entry i ∨ t.entry i = none

theorem RecordsKept.refl (s : State) : RecordsKept s s :=
  ⟨rfl, rfl, fun _ => .inl, fun _ => .inl, fun _ => rfl, fun _ _ => .inl rfl, fun _ _ => .inl rfl⟩

theorem RecordsKept.roundActive (h : RecordsKept s t) : t.roundActive = s.roundActive := by
  rw [State.roundActive, h.round]; rfl

theorem RecordsKept.trans (h : RecordsKept s t) (k : RecordsKept t u) : RecordsKept s u where
  round := k.round.trans h.round
  clock := k.clock.trans h.clock
  teamLock y e := (k.teamLock y e).elim (h.teamLock y) fun hactive => .inr (h.roundActive ▸ hactive)
  seatLock i e := (k.seatLock i e).elim (h.seatLock i) fun ⟨hactive, hbound⟩ =>
    .inr ⟨h.roundActive ▸ hactive, h.bound i ▸ hbound⟩
  bound i := (k.bound i).trans (h.bound i)
  lamp i e := by
    rcases k.lamp i ((h.bound i).trans e) with hk | hk
    · rw [hk]; exact h.lamp i e
    · exact .inr hk
  entry i e := by
    rcases k.entry i ((h.bound i).trans e) with hk | hk
    · rw [hk]; exact h.entry i e
    · exact .inr hk

/-- A state with the records, the round and the clock of another. -/
theorem RecordsKept.of_same (hround : t.round = s.round)
    (hclock : { t.clock with call := none, judgeDeadline := none } = { s.clock with call := none, judgeDeadline := none })
    (hteam : ∀ y, (t.team y).locked = (s.team y).locked) (hseat : ∀ i, t.seat i = s.seat i)
    (hentry : ∀ i, t.entry i = s.entry i) : RecordsKept s t where
  round := hround
  clock := hclock
  teamLock y e := .inl (hteam y ▸ e)
  seatLock i e := .inl (hseat i ▸ e)
  bound i := by rw [hseat]
  lamp i _ := .inl (by rw [hseat])
  entry i _ := .inl (hentry i)

theorem RecordsKept.of_part (h : t.contestPart = s.contestPart) : RecordsKept s t := by
  have hround := congrArg State.round h
  have hclock := congrArg State.clock h
  refine .of_same hround (congrArg (fun x : Clock => { x with call := none, judgeDeadline := none }) hclock) (fun y => ?_)
    (fun i => ?_) fun i => ?_
  · have e := congrArg (fun v => (State.team v y).locked) h; exact e
  · have e := congrArg (State.seat · i) h; exact e
  · have e := congrArg (State.entry · i) h; exact e

theorem RecordsKept.roundInOrder (h : RecordsKept s t) (hs : RoundInOrder s) : RoundInOrder t := by
  obtain ⟨hbody, houtcome, hcount, hrunning, hwindow, hsettling, hteams, hseats⟩ := hs
  have hactive := h.roundActive
  have hfields := h.clock
  simp only [Clock.mk.injEq] at hfields
  obtain ⟨hc, hr, hw, hse, -⟩ := hfields
  unfold RoundInOrder
  rw [hactive, State.window, State.closeInstant, h.round, hc, hr, hw, hse]
  exact ⟨hbody, houtcome, hcount, hrunning, hwindow, hsettling, fun y e => (h.teamLock y e).elim (hteams y) id,
    fun i e => (h.seatLock i e).elim (hseats i) And.left⟩

theorem RecordsKept.unboundClear (h : RecordsKept s t) (hs : UnboundSeatsClear s) : UnboundSeatsClear t := by
  intro i hunbound
  rw [h.bound] at hunbound
  obtain ⟨hlock, hentry, hlamp⟩ := hs i hunbound
  refine ⟨?_, ?_, ?_⟩
  · cases he : (t.seat i).locked with
    | false => rfl
    | true =>
      rcases h.seatLock i he with hold | ⟨-, hbound⟩
      · rw [hlock] at hold; cases hold
      · exact absurd hunbound hbound
  · rcases h.entry i hunbound with e | e
    · rw [e]; exact hentry
    · exact e
  · rcases h.lamp i hunbound with e | e
    · rw [e]; exact hlamp
    · exact e

/-- A write of one seat's record. -/
theorem setSeat_kept {i : SeatNo} {v : Seat} (hteam : v.team = (s.seat i).team)
    (hlock : v.locked = true → (s.seat i).locked = true ∨ (s.roundActive = true ∧ (s.seat i).team ≠ none))
    (hlamp : (s.seat i).team = none → v.lamp = (s.seat i).lamp ∨ v.lamp = .idle) : RecordsKept s (s.setSeat i v) := by
  refine ⟨rfl, rfl, fun _ => .inl, fun j => ?_, fun j => ?_, fun j => ?_, fun _ _ => .inl rfl⟩
  all_goals rw [State.setSeat_seat]; split
  · next e => subst e; exact hlock
  · exact .inl
  · next e => subst e; exact hteam
  · rfl
  · next e => subst e; exact hlamp
  · exact fun _ => .inl rfl

/-- A lamp is written for a bound seat, or IDLE (R32, R37). -/
theorem lampWrite_kept {i : SeatNo} {v : Lamp} (h : (s.seat i).team ≠ none ∨ v = .idle) : RecordsKept s (lampWrite i v s) := by
  have hset : RecordsKept s (s.setSeat i { s.seat i with lamp := v }) :=
    setSeat_kept rfl .inl fun hnone => .inr (h.resolve_left fun hbound => hbound hnone)
  exact hset.trans (.of_part (contestPart_of_lines (State.queueOn_frame _ _ _)))

theorem lampWrites_kept {v : SeatNo → Option Lamp} (h : ∀ i l, v i = some l → (s.seat i).team ≠ none ∨ l = .idle) :
    RecordsKept s (lampWrites v s) := by
  unfold lampWrites
  generalize allSeats = l
  induction l generalizing s with
  | nil => exact .refl s
  | cons i l ih =>
    rw [List.foldl_cons]
    have hfirst : RecordsKept s (match v i with | some w => lampWrite i w s | none => s) := by
      split
      · next w hw => exact lampWrite_kept (h i w hw)
      · exact .refl s
    exact hfirst.trans (ih fun j w hw => by rw [hfirst.bound]; exact h j w hw)

theorem setNotice_kept (k : Notice) (s : State) : RecordsKept s (s.setNotice k) := .of_part rfl

theorem lockTeam_kept (hactive : s.roundActive = true) (y : TeamNo) :
    RecordsKept s (s.setTeam y { s.team y with locked := true }) :=
  ⟨rfl, rfl, fun _ _ => .inr hactive, fun _ => .inl, fun _ => rfl, fun _ _ => .inl rfl, fun _ _ => .inl rfl⟩

/-- A write of one team's record that leaves its lock. -/
theorem setTeam_kept {y : TeamNo} {v : Team} (h : v.locked = true → (s.team y).locked = true) :
    RecordsKept s (s.setTeam y v) := by
  refine ⟨rfl, rfl, fun z => ?_, fun _ => .inl, fun _ => rfl, fun _ _ => .inl rfl, fun _ _ => .inl rfl⟩
  rw [State.setTeam_team]
  split
  · next e => subst e; exact fun hv => .inl (h hv)
  · exact .inl

theorem updateStandings_kept (s : State) : RecordsKept s (updateStandings s) :=
  .of_same (updateStandings_round s) (by rw [updateStandings_clock]) (fun y => by rw [updateStandings_team])
    (updateStandings_seat s) (updateStandings_entry s)

theorem writeScore_kept {y : TeamNo} {v : Team} (h : v.locked = (s.team y).locked) : RecordsKept s (writeScore y v s) := by
  refine .of_same (writeScore_round s y v) (by rw [writeScore_clock]) (fun z => ?_) (writeScore_seat s y v)
    (writeScore_entry s y v)
  obtain ⟨rank, hteam⟩ := writeScore_team s y v z
  rw [hteam]
  split
  · next e => subst e; exact h
  · rfl

theorem setEntry_kept {i : SeatNo} {e : Option SheetEntry} (h : (s.seat i).team ≠ none ∨ e = none) :
    RecordsKept s (s.setEntry i e) := by
  refine ⟨rfl, rfl, fun _ => .inl, fun _ => .inl, fun _ => rfl, fun _ _ => .inl rfl, fun j hj => ?_⟩
  rw [State.setEntry_entry]
  split
  · next hij => subst hij; exact .inr (h.resolve_left fun hbound => hbound hj)
  · exact .inl rfl

theorem updatePresence_kept (f : SeatFrame) (s : State) : RecordsKept s (updatePresence f s) := by
  have hwrite (p : Presence) (k : Nat) : RecordsKept s (writePresence f.seat p k s) := by
    have hset : RecordsKept s (s.setSeat f.seat { s.seat f.seat with presence := p, countdown := k }) :=
      setSeat_kept rfl .inl fun _ => .inl rfl
    unfold writePresence
    dsimp only
    split
    · exact hset
    · exact hset.trans (setNotice_kept _ _)
  unfold updatePresence
  split
  · exact hwrite _ _
  · exact hwrite _ _
  · exact hwrite _ _

theorem callHead_kept (h : ∀ c ∈ s.ladder, (s.seat c.seat).team ≠ none) : RecordsKept s (callHead s) := by
  unfold callHead
  split
  · exact .refl s
  · next head rest hladder =>
    have hbound := h head (by rw [hladder]; exact .head _)
    have hcalled : RecordsKept s { s with
        ladder := { head with called := true } :: rest
        clock := { s.clock with call := none, judgeDeadline := some (s.clock.count + s.copy.judgeWindow) } } :=
      .of_same rfl rfl (fun _ => rfl) (fun _ => rfl) fun _ => rfl
    exact (hcalled.trans (lampWrite_kept (.inl hbound))).trans (setNotice_kept _ _)

theorem rearmCall_kept (h : ∀ c ∈ s.ladder, (s.seat c.seat).team ≠ none) : RecordsKept s (rearmCall s) := by
  have hclock (v : Option Nat) : RecordsKept s { s with clock := { s.clock with call := v } } :=
    .of_same rfl rfl (fun _ => rfl) (fun _ => rfl) fun _ => rfl
  unfold rearmCall
  split
  · exact hclock none
  · dsimp only
    split
    · exact hclock none
    · split
      · exact callHead_kept h
      · exact hclock _

/-! ## A round that closes (R93) -/

theorem RoundInOrder.body_ne_none (h : RoundInOrder s) (hactive : s.roundActive = true) : s.round.body ≠ none := fun e => by
  obtain ⟨hbody, -⟩ := h
  rw [State.roundActive, hbody.mp e] at hactive
  cases hactive

theorem RoundInOrder.count_le (h : RoundInOrder s) : s.clock.count ≤ maxCount := by
  obtain ⟨-, -, hcount, -⟩ := h
  exact hcount

theorem closeRound_roundInOrder (o : RoundOutcome) (hbody : s.round.body ≠ none) (hcount : s.clock.count ≤ maxCount) :
    RoundInOrder (closeRound o s) := by
  unfold RoundInOrder
  simp [hbody, hcount, Clock.initial]

theorem closeRound_unboundClear (o : RoundOutcome) (hs : UnboundSeatsClear s) : UnboundSeatsClear (closeRound o s) := by
  intro i hunbound
  rw [closeRound_seat] at hunbound ⊢
  obtain ⟨-, hentry, hlamp⟩ := hs i hunbound
  exact ⟨rfl, by rw [closeRound_entry]; exact hentry, hlamp⟩

theorem ladderInOrder_of_nil (hladder : t.ladder = []) (hcall : t.clock.call = none)
    (hdeadline : t.clock.judgeDeadline = none) (hstate : t.round.state ≠ .draining) : LadderInOrder t := by
  unfold LadderInOrder ComparesFollowLadder
  simp [hladder, hcall, hdeadline, hstate]

theorem closeRound_ladderInOrder (o : RoundOutcome) (s : State) : LadderInOrder (closeRound o s) :=
  ladderInOrder_of_nil (closeRound_ladder s o) (by rw [closeRound_clock]; rfl) (by rw [closeRound_clock]; rfl)
    (by rw [closeRound_round]; exact RoundState.noConfusion)

/-- A close leaves the contest in order, whatever its ladder was (R93). -/
theorem closeRound_core (o : RoundOutcome) (hbody : s.round.body ≠ none) (hcount : s.clock.count ≤ maxCount)
    (hclear : UnboundSeatsClear s) : ContestCore (closeRound o s) :=
  ⟨closeRound_roundInOrder o hbody hcount, closeRound_ladderInOrder o s, closeRound_unboundClear o hclear⟩

end Sys2Proof.Machine
end

section
/-! PROOFS. A ladder whose claims are in order and stand, and what re-arms its call: the ladder goes on in order (R72, R86,
R107, R114, R118, R119). -/

namespace Sys2Proof.Machine

variable {s t u : State} {c d : Claim} {x : TeamNo}

/-- A ladder whose call compare is still to be re-armed. -/
structure LadderReady (s : State) : Prop where
  order : ClaimsInOrder s.round.tieStart s.ladder
  stands (c : Claim) (h : c ∈ s.ladder) : c.Stands s
  deadline : s.clock.judgeDeadline.isSome = true ↔ ∃ c ∈ s.ladder, c.called = true
  active (h : s.ladder ≠ []) : s.kind = some .buzz ∧
    (s.round.state = .opened ∨ s.round.state = .settling ∨ s.round.state = .draining)

theorem LadderInOrder.ready (h : LadderInOrder s) : LadderReady s := by
  obtain ⟨horder, hstands, ⟨hnil, hhead⟩, hactive, -⟩ := h
  refine ⟨horder, hstands, ?_, hactive⟩
  cases hladder : s.ladder with
  | nil => simp [(hnil hladder).2]
  | cons head rest =>
    have hcompares := hhead head (by rw [hladder]; rfl)
    rw [hladder] at horder
    constructor
    · intro hdeadline
      refine ⟨head, .head _, ?_⟩
      by_contra hwaiting
      rw [if_neg hwaiting] at hcompares
      rw [hcompares.2] at hdeadline
      cases hdeadline
    · rintro ⟨c, hc, hcalled⟩
      rcases List.mem_cons.mp hc with rfl | hc
      · rw [if_pos hcalled] at hcompares; exact hcompares.2
      · rw [ClaimsInOrder.rest_waiting horder hc] at hcalled; cases hcalled

theorem LadderInOrder.bound (h : LadderInOrder s) (hc : c ∈ s.ladder) : (s.seat c.seat).team = some c.team := by
  obtain ⟨-, hstands, -⟩ := h
  exact (hstands c hc).2

theorem LadderReady.bound (h : LadderReady s) (hc : c ∈ s.ladder) : (s.seat c.seat).team ≠ none := by
  rw [(h.stands c hc).2]; exact Option.some_ne_none _

theorem LadderReady.roundActive (h : LadderReady s) (hladder : s.ladder ≠ []) : s.roundActive = true := by
  obtain ⟨-, hstate⟩ := h.active hladder
  rw [State.roundActive]
  rcases hstate with e | e | e <;> rw [e] <;> rfl

/-- A ladder that is ready is ready in a state that differs where the ladder does not look. -/
theorem LadderReady.congr (h : LadderReady s) (hladder : t.ladder = s.ladder) (hround : t.round = s.round)
    (hdeadline : t.clock.judgeDeadline = s.clock.judgeDeadline) (hstate : ∀ y, (t.team y).state = (s.team y).state)
    (hbound : ∀ i, (t.seat i).team = (s.seat i).team) : LadderReady t where
  order := by rw [hround, hladder]; exact h.order
  stands c hc := by
    rw [hladder] at hc
    obtain ⟨hactive, hseat⟩ := h.stands c hc
    exact ⟨by rw [hstate]; exact hactive, by rw [hbound]; exact hseat⟩
  deadline := by rw [hdeadline, hladder]; exact h.deadline
  active hne := by
    rw [hladder] at hne
    rw [State.kind, hround]
    exact h.active hne

/-- Before the call is re-armed, the claims of every team but one are as they were, and those of that team are gone. -/
theorem LadderInOrder.ready_of_removed (hs : LadderInOrder s) (hc : c ∈ s.ladder)
    (hladder : u.ladder = s.ladder.filter (·.team ≠ c.team)) (hround : u.round = s.round)
    (hstate : ∀ y, y ≠ c.team → (u.team y).state = (s.team y).state)
    (hbound : ∀ i y, y ≠ c.team → (s.seat i).team = some y → (u.seat i).team = some y)
    (hdeadline : u.clock.judgeDeadline = if c.called then none else s.clock.judgeDeadline) : LadderReady u := by
  have hready := hs.ready
  have hmem {d : Claim} : d ∈ u.ladder ↔ d ∈ s.ladder ∧ d.team ≠ c.team := by rw [hladder]; simp
  refine ⟨?_, fun d hd => ?_, ?_, fun hne => ?_⟩
  · rw [hround, hladder]; exact hready.order.filter _
  · obtain ⟨hd, hteam⟩ := hmem.mp hd
    obtain ⟨hactive, hseat⟩ := hready.stands d hd
    exact ⟨by rw [hstate _ hteam]; exact hactive, hbound _ _ hteam hseat⟩
  · rw [hdeadline]
    split
    · next hcalled =>
      refine ⟨by rintro ⟨⟩, ?_⟩
      rintro ⟨d, hd, hd'⟩
      obtain ⟨hd, hteam⟩ := hmem.mp hd
      have hsame := (hready.order.head_of_called hc hcalled).symm.trans (hready.order.head_of_called hd hd')
      exact absurd (Option.some.inj hsame ▸ rfl) hteam
    · next hwaiting =>
      rw [hready.deadline]
      refine ⟨?_, fun ⟨d, hd, hcalled⟩ => ⟨d, (hmem.mp hd).1, hcalled⟩⟩
      rintro ⟨d, hd, hcalled⟩
      refine ⟨d, hmem.mpr ⟨hd, fun hteam => hwaiting ?_⟩, hcalled⟩
      rw [← hready.order.eq_of_team hd hc hteam]; exact hcalled
  · have : s.ladder ≠ [] := List.ne_nil_of_mem hc
    rw [State.kind, hround]
    exact hready.active this

/-! ## Re-arming -/

theorem callHead_ladder {head : Claim} {rest : List Claim} (h : s.ladder = head :: rest) :
    (callHead s).ladder = { head with called := true } :: rest := by
  rw [callHead_of_cons h]; exact lampWrite_ladder _ _ _

theorem callHead_clock {head : Claim} {rest : List Claim} (h : s.ladder = head :: rest) :
    (callHead s).clock = { s.clock with call := none, judgeDeadline := some (s.clock.count + s.copy.judgeWindow) } := by
  rw [callHead_of_cons h]; exact lampWrite_clock _ _ _

theorem callHead_round (s : State) : (callHead s).round = s.round := by
  unfold callHead
  split
  · rfl
  · exact lampWrite_round _ _ _

theorem callHead_team (s : State) (y : TeamNo) : (callHead s).team y = s.team y := by
  unfold callHead
  split
  · rfl
  · exact lampWrite_team _ _ _ y

theorem callHead_bound (s : State) (i : SeatNo) : ((callHead s).seat i).team = (s.seat i).team := by
  unfold callHead
  split
  · rfl
  · rw [State.setNotice_seat, lampWrite_seat]
    split
    · next e => subst e; rfl
    · rfl

theorem rearmCall_round (s : State) : (rearmCall s).round = s.round := by
  unfold rearmCall
  split
  · rfl
  · dsimp only
    split
    · rfl
    · split
      · exact callHead_round s
      · rfl

theorem rearmCall_team (s : State) (y : TeamNo) : (rearmCall s).team y = s.team y := by
  unfold rearmCall
  split
  · rfl
  · dsimp only
    split
    · rfl
    · split
      · exact callHead_team s y
      · rfl

theorem rearmCall_bound (s : State) (i : SeatNo) : ((rearmCall s).seat i).team = (s.seat i).team := by
  unfold rearmCall
  split
  · rfl
  · dsimp only
    split
    · rfl
    · split
      · exact callHead_bound s i
      · rfl

/-- The ladder with its head CALLED (R107). -/
theorem LadderReady.called {head : Claim} {rest : List Claim} (h : LadderReady s) (hladder : s.ladder = head :: rest) :
    LadderInOrder (callHead s) := by
  have horder := h.order
  rw [hladder] at horder
  obtain ⟨hhead, hrest⟩ := List.pairwise_cons.mp horder
  have hstands (c : Claim) (hc : c.Stands s) : c.Stands (callHead s) :=
    ⟨by rw [callHead_team]; exact hc.1, by rw [callHead_bound]; exact hc.2⟩
  unfold LadderInOrder ComparesFollowLadder
  rw [callHead_ladder hladder, callHead_round, callHead_clock hladder, State.kind, callHead_round]
  have hactive := h.active (by rw [hladder]; exact List.cons_ne_nil _ _)
  refine ⟨List.pairwise_cons.mpr ⟨fun d hd => ⟨(hhead d hd).1, (hhead d hd).2.1, .inl rfl⟩, hrest⟩, fun c hc => ?_, ?_,
    fun _ => hactive, fun _ => List.cons_ne_nil _ _⟩
  · rcases List.mem_cons.mp hc with rfl | hc
    · exact hstands _ (h.stands head (by rw [hladder]; exact .head _))
    · exact hstands c (h.stands c (by rw [hladder]; exact .tail _ hc))
  · exact ⟨fun e => absurd e (List.cons_ne_nil _ _), by rintro _ ⟨⟩; exact ⟨rfl, rfl⟩⟩

theorem rearmCall_ladderInOrder (h : LadderReady s) (hdrained : s.round.state = .draining → s.ladder ≠ []) :
    LadderInOrder (rearmCall s) := by
  have hrearmed (v : Option Nat) (hcompares : ComparesFollowLadder { s with clock := { s.clock with call := v } }) :
      LadderInOrder { s with clock := { s.clock with call := v } } :=
    ⟨h.order, h.stands, hcompares, h.active, hdrained⟩
  cases hladder : s.ladder with
  | nil =>
    rw [rearmCall_of_nil hladder]
    refine hrearmed none ⟨fun _ => ⟨rfl, ?_⟩, by rw [hladder]; rintro _ ⟨⟩⟩
    refine Option.not_isSome_iff_eq_none.mp fun e => ?_
    obtain ⟨c, hc, -⟩ := h.deadline.mp e
    rw [hladder] at hc
    cases hc
  | cons head rest =>
    have hdeadline : s.clock.judgeDeadline.isSome = true ↔ head.called = true := by
      rw [h.deadline]
      refine ⟨fun ⟨c, hc, hcalled⟩ => ?_, fun e => ⟨head, by rw [hladder]; exact .head _, e⟩⟩
      have hhead := h.order.head_of_called hc hcalled
      rw [hladder] at hhead
      cases hhead
      exact hcalled
    have hcompare (v : Option Nat) (hv : if head.called then v = none ∧ s.clock.judgeDeadline.isSome
        else v = some (head.offset + s.copy.callSettle) ∧ s.clock.judgeDeadline = none) :
        ComparesFollowLadder { s with clock := { s.clock with call := v } } :=
      ⟨fun e => absurd (hladder.symm.trans e) (List.cons_ne_nil _ _), by
        intro _ he
        simp only [hladder, List.head?_cons, Option.mem_def, Option.some.injEq] at he
        subst he
        exact hv⟩
    cases hcalled : head.called with
    | true =>
      rw [rearmCall_of_called hladder h.order hcalled]
      exact hrearmed none (hcompare none (by rw [if_pos hcalled]; exact ⟨rfl, hdeadline.mpr hcalled⟩))
    | false =>
      rcases Nat.lt_or_ge s.clock.count (head.offset + s.copy.callSettle) with hlater | hdue
      · rw [rearmCall_of_later hladder h.order hcalled hlater]
        refine hrearmed _ (hcompare _ ?_)
        rw [hcalled, if_neg Bool.false_ne_true]
        refine ⟨rfl, Option.not_isSome_iff_eq_none.mp fun e => ?_⟩
        rw [hdeadline.mp e] at hcalled
        cases hcalled
      · rw [rearmCall_of_due hladder h.order hcalled hdue]
        exact h.called hladder

/-- The ladder goes on in order, closing a DRAINING round that it leaves without a claim (R86, R114). -/
theorem ladderGoesOn_core (h : LadderReady s) (hround : RoundInOrder s) (hclear : UnboundSeatsClear s) :
    ContestCore (ladderGoesOn s) := by
  by_cases hdrained : s.ladder = [] ∧ s.round.state = .draining
  · obtain ⟨hnil, hstate⟩ := hdrained
    rw [ladderGoesOn_of_drained hnil hstate]
    exact closeRound_core .noWinner (hround.body_ne_none (by rw [State.roundActive, hstate]; rfl)) hround.count_le hclear
  · have hkept := rearmCall_kept fun c hc => h.bound hc
    rw [ladderGoesOn_of_rearm (by tauto)]
    exact ⟨hkept.roundInOrder hround, rearmCall_ladderInOrder h fun e hnil => hdrained ⟨hnil, e⟩,
      hkept.unboundClear hclear⟩

theorem rearmCall_core (h : LadderReady s) (hdrained : s.round.state = .draining → s.ladder ≠ [])
    (hround : RoundInOrder s) (hclear : UnboundSeatsClear s) : ContestCore (rearmCall s) :=
  have hkept := rearmCall_kept fun _ hc => h.bound hc
  ⟨hkept.roundInOrder hround, rearmCall_ladderInOrder h hdrained, hkept.unboundClear hclear⟩

end Sys2Proof.Machine
end

section
/-! PROOFS. Each operation of the ladder, the sheet and the Seat Table leaves the contest in order. -/

namespace Sys2Proof.Machine

variable {s t u : State} {c d : Claim} {x : TeamNo}

/-! ## Operations that leave the ladder -/

theorem LadderInOrder.congr (h : LadderInOrder s) (hladder : t.ladder = s.ladder) (hround : t.round = s.round)
    (hclock : t.clock = s.clock) (hstate : ∀ c ∈ s.ladder, (t.team c.team).state = (s.team c.team).state)
    (hbound : ∀ c ∈ s.ladder, (t.seat c.seat).team = (s.seat c.seat).team) : LadderInOrder t := by
  obtain ⟨horder, hstands, hcompares, hactive, hdrained⟩ := h
  unfold LadderInOrder ComparesFollowLadder
  rw [hladder, hround, hclock, State.kind, State.copy, hround]
  refine ⟨horder, fun c hc => ?_, hcompares, hactive, hdrained⟩
  obtain ⟨hteam, hseat⟩ := hstands c hc
  exact ⟨by rw [hstate c hc]; exact hteam, by rw [hbound c hc]; exact hseat⟩

/-- An operation that leaves the ladder, the compares and the team states leaves the contest in order. -/
theorem ContestCore.kept (hs : ContestCore s) (h : RecordsKept s t) (hladder : t.ladder = s.ladder)
    (hclock : t.clock = s.clock) (hstate : ∀ c ∈ s.ladder, (t.team c.team).state = (s.team c.team).state) : ContestCore t := by
  obtain ⟨hround, hclaims, hclear⟩ := hs
  exact ⟨h.roundInOrder hround, hclaims.congr hladder h.round hclock hstate fun c _ => h.bound _, h.unboundClear hclear⟩

theorem ContestCore.lampWrites (hs : ContestCore s) {v : SeatNo → Option Lamp}
    (h : ∀ i l, v i = some l → (s.seat i).team ≠ none ∨ l = .idle) : ContestCore (lampWrites v s) := by
  have hframe := lampWrites_frame s v
  exact hs.kept (lampWrites_kept h) (State.ladder_of_lamps hframe) (State.clock_of_lamps hframe)
    fun c _ => congrArg Team.state (State.team_of_lamps hframe c.team)

theorem ContestCore.lampWrite (hs : ContestCore s) {i : SeatNo} {v : Lamp} (h : (s.seat i).team ≠ none ∨ v = .idle) :
    ContestCore (lampWrite i v s) :=
  hs.kept (lampWrite_kept h) (lampWrite_ladder s i v) (lampWrite_clock s i v) fun c _ => by rw [lampWrite_team]

/-! ## What every claim of a new ladder was -/

/-- Re-arming the call changes no claim but for the CALLED mark of the head. -/
theorem mem_rearmCall (h : c ∈ (rearmCall s).ladder) :
    ∃ d ∈ s.ladder, d.team = c.team ∧ d.seat = c.seat ∧ d.offset = c.offset := by
  have hsame (h : c ∈ s.ladder) : ∃ d ∈ s.ladder, d.team = c.team ∧ d.seat = c.seat ∧ d.offset = c.offset :=
    ⟨c, h, rfl, rfl, rfl⟩
  unfold rearmCall at h
  split at h
  · exact hsame h
  · next head rest hladder =>
    dsimp only at h
    split at h
    · exact hsame h
    · split at h
      · rw [callHead_ladder hladder] at h
        rcases List.mem_cons.mp h with rfl | h
        · exact ⟨head, by rw [hladder]; exact .head _, rfl, rfl, rfl⟩
        · exact hsame (by rw [hladder]; exact .tail _ h)
      · exact hsame h

theorem mem_ladderGoesOn (h : c ∈ (ladderGoesOn s).ladder) :
    ∃ d ∈ s.ladder, d.team = c.team ∧ d.seat = c.seat ∧ d.offset = c.offset := by
  unfold ladderGoesOn at h
  split at h
  · rw [closeRound_ladder] at h; cases h
  · exact mem_rearmCall h

theorem ladderGoesOn_bound (s : State) (i : SeatNo) : ((ladderGoesOn s).seat i).team = (s.seat i).team := by
  unfold ladderGoesOn
  split
  · rw [closeRound_seat]
  · exact rearmCall_bound s i

theorem ladderGoesOn_state (s : State) (y : TeamNo) : ((ladderGoesOn s).team y).state = (s.team y).state := by
  unfold ladderGoesOn
  split
  · rw [closeRound_team]
  · rw [rearmCall_team]

/-! ## A claim that leaves the ladder (R112, R113, R118, R119) -/

theorem removeCalled_kept (c : Claim) (s : State) : RecordsKept s (removeCalled c s) :=
  .of_same rfl rfl (fun _ => rfl) (fun _ => rfl) fun _ => rfl

/-- The state in which the ladder goes on after the claim `c` has been dropped. -/
def droppedClaim (c : Claim) (s : State) : State :=
  if c.called then (lampWrite c.seat .idle (removeCalled c s)).setNotice .claimCancelled
  else lampWrite c.seat .idle { s with ladder := s.ladder.filter (·.team ≠ c.team) }

theorem dropClaim_eq (c : Claim) (s : State) : dropClaim c s = ladderGoesOn (droppedClaim c s) := by
  unfold dropClaim droppedClaim
  split <;> rfl

theorem droppedClaim_ladder (c : Claim) (s : State) : (droppedClaim c s).ladder = s.ladder.filter (·.team ≠ c.team) := by
  unfold droppedClaim
  split
  · exact lampWrite_ladder _ _ _
  · exact lampWrite_ladder _ _ _

theorem droppedClaim_kept (c : Claim) (s : State) : RecordsKept s (droppedClaim c s) := by
  unfold droppedClaim
  split
  · exact ((removeCalled_kept c s).trans (lampWrite_kept (.inr rfl))).trans (setNotice_kept _ _)
  · have hfiltered : RecordsKept s { s with ladder := s.ladder.filter (·.team ≠ c.team) } :=
      .of_same rfl rfl (fun _ => rfl) (fun _ => rfl) fun _ => rfl
    exact hfiltered.trans (lampWrite_kept (.inr rfl))

theorem droppedClaim_team (c : Claim) (s : State) (y : TeamNo) : (droppedClaim c s).team y = s.team y := by
  unfold droppedClaim
  split
  · exact lampWrite_team _ _ _ y
  · exact lampWrite_team _ _ _ y

theorem droppedClaim_clock (c : Claim) (s : State) :
    (droppedClaim c s).clock = if c.called then { s.clock with judgeDeadline := none } else s.clock := by
  unfold droppedClaim
  split
  · exact lampWrite_clock _ _ _
  · exact lampWrite_clock _ _ _

/-- No claim of its team is left once a claim has been dropped. -/
theorem dropClaim_team_ne (h : d ∈ (dropClaim c s).ladder) : d.team ≠ c.team := by
  rw [dropClaim_eq] at h
  obtain ⟨e, he, hteam, -⟩ := mem_ladderGoesOn h
  rw [droppedClaim_ladder] at he
  rw [← hteam]
  simpa using (List.mem_filter.mp he).2

theorem dropClaim_bound (c : Claim) (s : State) (i : SeatNo) : ((dropClaim c s).seat i).team = (s.seat i).team := by
  rw [dropClaim_eq, ladderGoesOn_bound, (droppedClaim_kept c s).bound]

theorem dropClaim_state (c : Claim) (s : State) (y : TeamNo) : ((dropClaim c s).team y).state = (s.team y).state := by
  rw [dropClaim_eq, ladderGoesOn_state, droppedClaim_team]

/-- A claim is dropped in order, from a contest that was in order but perhaps for the state of the claim's team (R14). -/
theorem dropClaim_core (hs : ContestCore s) (hc : c ∈ s.ladder) (hkept : RecordsKept s u) (hladder : u.ladder = s.ladder)
    (hclock : u.clock = s.clock) (hstate : ∀ y, y ≠ c.team → (u.team y).state = (s.team y).state) :
    ContestCore (dropClaim c u) := by
  obtain ⟨hround, hclaims, hclear⟩ := hs
  have hdropped := hkept.trans (droppedClaim_kept c u)
  rw [dropClaim_eq]
  refine ladderGoesOn_core ?_ (hdropped.roundInOrder hround) (hdropped.unboundClear hclear)
  refine hclaims.ready_of_removed hc (by rw [droppedClaim_ladder, hladder]) hdropped.round (fun y hy => ?_)
    (fun i y _ hi => by rw [hdropped.bound]; exact hi) ?_
  · rw [droppedClaim_team]; exact hstate y hy
  · rw [droppedClaim_clock, hclock]; split <;> rfl

theorem dropTeamClaim_core (hs : ContestCore s) (hkept : RecordsKept s u) (hladder : u.ladder = s.ladder)
    (hclock : u.clock = s.clock) (hstate : ∀ y, y ≠ x → (u.team y).state = (s.team y).state) :
    ContestCore (dropTeamClaim x u) := by
  have hclaim : u.claimOf x = s.claimOf x := by rw [State.claimOf, hladder]; rfl
  unfold dropTeamClaim
  rw [hclaim]
  split
  · next c hc =>
    obtain ⟨hmem, rfl⟩ := claimOf_eq_some hc
    exact dropClaim_core hs hmem hkept hladder hclock hstate
  · next hnone =>
    exact hs.kept hkept hladder hclock fun c hc => hstate _ (claimOf_eq_none.mp hnone c hc)

theorem dropSeatClaim_core (i : SeatNo) (hs : ContestCore s) : ContestCore (dropSeatClaim i s) := by
  unfold dropSeatClaim
  split
  · next c hc => exact dropClaim_core hs (List.mem_of_find?_eq_some hc) (.refl s) rfl rfl fun _ _ => rfl
  · exact hs

theorem dropSeatClaim_bound (i j : SeatNo) (s : State) : ((dropSeatClaim i s).seat j).team = (s.seat j).team := by
  unfold dropSeatClaim
  split
  · exact dropClaim_bound _ s j
  · rfl

/-- After a seat's claim has been dropped the seat holds none. -/
theorem dropSeatClaim_seat_ne {i : SeatNo} (hs : ContestCore s) (h : d ∈ (dropSeatClaim i s).ladder) : d.seat ≠ i := by
  have hbound := (dropSeatClaim_core i hs).2.1.bound h
  rw [dropSeatClaim_bound] at hbound
  intro hseat
  unfold dropSeatClaim at h
  split at h
  · next c hc =>
    have hi : c.seat = i := by simpa using List.find?_some hc
    have hclaim := hs.2.1.bound (List.mem_of_find?_eq_some hc)
    rw [hseat] at hbound
    rw [hi, hbound] at hclaim
    exact dropClaim_team_ne h (Option.some.inj hclaim)
  · next hnone => exact absurd (by simpa using hseat) (by simpa using List.find?_eq_none.mp hnone d h)

/-! ## Unbinding and binding (R35, R37) -/

/-- A seat with no claim, no lock, no answer and no lamp may lose its team. -/
theorem unbind_core {i : SeatNo} (hs : ContestCore s) (hclaim : ∀ d ∈ s.ladder, d.seat ≠ i) (hlock : (s.seat i).locked = false)
    (hentry : s.entry i = none) (hlamp : (s.seat i).lamp = .idle) :
    ContestCore (s.setSeat i { s.seat i with team := none }) := by
  obtain ⟨hround, hclaims, hclear⟩ := hs
  have hlocked (j : SeatNo) : ((s.setSeat i { s.seat i with team := none }).seat j).locked = (s.seat j).locked := by
    rw [State.setSeat_seat]; split
    · next e => subst e; rfl
    · rfl
  refine ⟨?_, hclaims.congr rfl rfl rfl (fun _ _ => rfl) fun c hc => ?_, fun j hj => ?_⟩
  · unfold RoundInOrder
    simp only [hlocked]
    exact hround
  · rw [State.setSeat_seat_of_ne _ _ _ _ (hclaim c hc)]
  · rw [State.setSeat_seat] at hj ⊢
    split at hj
    · next e => subst e; rw [if_pos rfl]; exact ⟨hlock, hentry, hlamp⟩
    · next e => rw [if_neg e]; exact hclear j hj

theorem unbindSeat_core (i : SeatNo) (hs : ContestCore s) : ContestCore (unbindSeat i s) := by
  unfold unbindSeat
  dsimp only
  split
  · exact hs
  · have hdropped := dropSeatClaim_core i hs
    have hanswer : ContestCore ((dropSeatClaim i s).setEntry i none) :=
      hdropped.kept (setEntry_kept (.inr rfl)) rfl rfl fun _ _ => rfl
    have hunlocked := hanswer.kept (setSeat_kept (i := i) (v := { (dropSeatClaim i s).seat i with locked := false }) rfl
      (fun e => nomatch e) fun _ => .inl rfl) rfl rfl fun _ _ => rfl
    have hlit := hunlocked.lampWrite (i := i) (v := .idle) (.inr rfl)
    refine unbind_core hlit (fun d hd => ?_) ?_ ?_ ?_
    · rw [lampWrite_ladder] at hd
      exact dropSeatClaim_seat_ne hs hd
    · rw [lampWrite_seat, if_pos rfl, State.setSeat_seat_same]
    · rw [lampWrite_entry]
      exact State.setEntry_entry_same _ _ _
    · rw [lampWrite_seat, if_pos rfl]

theorem unbindMembers_core (x : TeamNo) (hs : ContestCore s) : ContestCore (unbindMembers x s) := by
  unfold unbindMembers
  generalize s.members x = l
  induction l generalizing s with
  | nil => exact hs
  | cons i l ih => exact ih (unbindSeat_core i hs)

/-- An unbound seat is bound (R35). -/
theorem bind_core {i : SeatNo} (hs : ContestCore s) (hunbound : (s.seat i).team = none) :
    ContestCore (s.setSeat i { s.seat i with team := some x }) := by
  obtain ⟨hround, hclaims, hclear⟩ := hs
  have hlocked (j : SeatNo) : ((s.setSeat i { s.seat i with team := some x }).seat j).locked = (s.seat j).locked := by
    rw [State.setSeat_seat]; split
    · next e => subst e; rfl
    · rfl
  refine ⟨?_, hclaims.congr rfl rfl rfl (fun _ _ => rfl) fun c hc => ?_, fun j hj => ?_⟩
  · unfold RoundInOrder
    simp only [hlocked]
    exact hround
  · have hne : c.seat ≠ i := fun e => by
      have hbound := hclaims.bound hc
      rw [e, hunbound] at hbound
      cases hbound
    rw [State.setSeat_seat_of_ne _ _ _ _ hne]
  · rw [State.setSeat_seat] at hj ⊢
    split at hj
    · cases hj
    · next e => rw [if_neg e]; exact hclear j hj

theorem bindSeat_core (i : SeatNo) (hs : ContestCore s) : ContestCore (bindSeat i x s) :=
  bind_core (unbindSeat_core i hs) (unbindSeat_unbound i s)

/-! ## Verdicts (R111 to R116) -/

/-- A verdict's lamps light bound seats alone (R112, R113). -/
theorem verdictLamps_kept (v : Lamp) (hbound : (s.seat c.seat).team ≠ none) : RecordsKept s (verdictLamps c v s) := by
  refine lampWrites_kept fun i l hl => .inl ?_
  split at hl
  · next e => rw [e]; exact hbound
  · split at hl
    · next e => rw [e]; exact Option.some_ne_none _
    · cases hl

/-- The state in which the ladder goes on after a verdict of WRONG or PASS on the claim `c`. -/
def verdictGiven (c : Claim) (v : Lamp) (s : State) : State := removeCalled c (verdictLamps c v (lockTeam c.team s))

/-- Nothing of a verdict but the ladder's going on closes a round or moves a claim. -/
theorem verdictGiven_kept (v : Lamp) (hbound : (s.seat c.seat).team ≠ none) (hactive : s.roundActive = true) :
    RecordsKept s (verdictGiven c v s) :=
  ((lockTeam_kept hactive c.team).trans (verdictLamps_kept v hbound)).trans (removeCalled_kept c _)

theorem verdictGiven_ladder (c : Claim) (v : Lamp) (s : State) :
    (verdictGiven c v s).ladder = s.ladder.filter (·.team ≠ c.team) := by
  unfold verdictGiven removeCalled
  exact congrArg (List.filter (·.team ≠ c.team)) (State.ladder_of_lamps (lampWrites_frame _ _))

theorem verdictGiven_team (c : Claim) (v : Lamp) (s : State) (y : TeamNo) :
    (verdictGiven c v s).team y = if y = c.team then { s.team y with locked := true } else s.team y := by
  have hlamps := State.team_of_lamps (lampWrites_frame (lockTeam c.team s) fun i =>
    if i = c.seat then some v else if ((lockTeam c.team s).seat i).team = some c.team then some .locked else none) y
  refine hlamps.trans ?_
  rw [lockTeam, State.setTeam_team]
  split
  · next e => rw [e]
  · rfl

/-- A contest that was in order, but for a disarmed judge deadline, a score and notices. -/
structure SameClaims (s u : State) : Prop where
  kept : RecordsKept s u
  ladder : u.ladder = s.ladder
  state (y : TeamNo) : (u.team y).state = (s.team y).state

theorem SameClaims.refl (s : State) : SameClaims s s := ⟨.refl s, rfl, fun _ => rfl⟩

theorem SameClaims.trans (h : SameClaims s t) (k : SameClaims t u) : SameClaims s u :=
  ⟨h.kept.trans k.kept, k.ladder.trans h.ladder, fun y => (k.state y).trans (h.state y)⟩

theorem verdict_core (v : Lamp) (hs : ContestCore s) (hc : c ∈ s.ladder) (hcalled : c.called = true) (h : SameClaims s u) :
    ContestCore (ladderGoesOn (verdictGiven c v u)) := by
  obtain ⟨hround, hclaims, hclear⟩ := hs
  have hactive : u.roundActive = true := by
    rw [h.kept.roundActive]; exact hclaims.ready.roundActive (List.ne_nil_of_mem hc)
  have hbound : (u.seat c.seat).team ≠ none := by rw [h.kept.bound]; exact hclaims.ready.bound hc
  have hgiven := h.kept.trans (verdictGiven_kept v hbound hactive)
  refine ladderGoesOn_core ?_ (hgiven.roundInOrder hround) (hgiven.unboundClear hclear)
  refine hclaims.ready_of_removed hc (by rw [verdictGiven_ladder, h.ladder]) hgiven.round (fun y hy => ?_)
    (fun i y _ hi => by rw [hgiven.bound]; exact hi) (by rw [if_pos hcalled]; rfl)
  rw [verdictGiven_team, if_neg hy]
  exact h.state y

theorem writeScore_state (y z : TeamNo) (record : Team) (h : record.state = (s.team y).state) :
    ((writeScore y record s).team z).state = (s.team z).state := by
  obtain ⟨rank, hteam⟩ := writeScore_team s y record z
  rw [hteam]
  split
  · next e => subst e; exact h
  · rfl

theorem scoreWrong_sameClaims (y : TeamNo) (s : State) : SameClaims s (scoreWrong y s) :=
  ⟨writeScore_kept rfl, writeScore_ladder s y _, fun z => writeScore_state y z _ rfl⟩

theorem judgeWrong_core (hs : ContestCore s) (hc : c ∈ s.ladder) (hcalled : c.called = true) (h : SameClaims s u) :
    ContestCore (judgeWrong c u) :=
  verdict_core .wrong hs hc hcalled (h.trans (scoreWrong_sameClaims c.team u))

theorem judgePass_core (hs : ContestCore s) (hc : c ∈ s.ladder) (hcalled : c.called = true) (h : SameClaims s u) :
    ContestCore (judgePass c u) := verdict_core .locked hs hc hcalled h

theorem judgeRight_core (hs : ContestCore s) (hc : c ∈ s.ladder) : ContestCore (judgeRight c s) := by
  obtain ⟨hround, hclaims, hclear⟩ := hs
  have hscored : RecordsKept s (scoreRight c.team s) := writeScore_kept rfl
  have hlit : RecordsKept s (lampWrite c.seat .right (scoreRight c.team s)) :=
    hscored.trans (lampWrite_kept (.inl (by rw [hscored.bound]; exact hclaims.ready.bound hc)))
  have hcleared := hlit.trans (lampWrites_kept (v := fun i =>
      if (lampWrite c.seat .right (scoreRight c.team s)).ladder.any fun w => !w.called && w.seat = i then some .idle
      else none) fun i l hl => by
    split at hl
    · exact .inr (Option.some.inj hl).symm
    · cases hl)
  have hround' := hcleared.roundInOrder hround
  unfold judgeRight
  exact closeRound_core _ (hround'.body_ne_none (by
    rw [hcleared.roundActive]; exact hclaims.ready.roundActive (List.ne_nil_of_mem hc))) hround'.count_le
    (hcleared.unboundClear hclear)

theorem timeOut_core (hs : ContestCore s) (hc : c ∈ s.ladder) (hcalled : c.called = true) (h : SameClaims s u) :
    ContestCore (timeOut c u) := by
  have hnoted : SameClaims s (u.setNotice .judgeTimeout) := h.trans ⟨setNotice_kept _ u, rfl, fun _ => rfl⟩
  unfold timeOut
  split
  · exact judgeWrong_core hs hc hcalled hnoted
  · exact judgePass_core hs hc hcalled hnoted

/-! ## Presses at the ladder (R101 to R105) -/

/-- The claim `c` joins the other teams' claims, its team's own WAITING one gone (R104, R105). -/
theorem LadderInOrder.ready_of_joined (hs : LadderInOrder s)
    (hladder : u.ladder = placeClaim s.round.tieStart c (s.ladder.filter (·.team ≠ c.team))) (hwaiting : c.called = false)
    (hnone : ∀ d ∈ s.ladder, d.team = c.team → d.called = false) (hstands : c.Stands s) (hkind : s.kind = some .buzz)
    (hstate : s.round.state = .opened ∨ s.round.state = .settling) (hround : u.round = s.round)
    (hteam : ∀ y, (u.team y).state = (s.team y).state) (hbound : ∀ i, (u.seat i).team = (s.seat i).team)
    (hdeadline : u.clock.judgeDeadline = s.clock.judgeDeadline) : LadderReady u := by
  have hready := hs.ready
  have hmem {d : Claim} : d ∈ u.ladder ↔ d = c ∨ (d ∈ s.ladder ∧ d.team ≠ c.team) := by
    rw [hladder, mem_placeClaim]; simp
  have hstay (d : Claim) (hd : d.Stands s) : d.Stands u :=
    ⟨by rw [hteam]; exact hd.1, by rw [hbound]; exact hd.2⟩
  refine ⟨?_, fun d hd => ?_, ?_, fun _ => ?_⟩
  · rw [hround, hladder]
    exact (hready.order.filter _).placeClaim hwaiting fun d hd => by simpa using (List.mem_filter.mp hd).2
  · rcases hmem.mp hd with rfl | ⟨hd, -⟩
    · exact hstay d hstands
    · exact hstay d (hready.stands d hd)
  · rw [hdeadline, hready.deadline]
    constructor
    · rintro ⟨d, hd, hcalled⟩
      refine ⟨d, hmem.mpr (.inr ⟨hd, fun e => ?_⟩), hcalled⟩
      rw [hnone d hd e] at hcalled
      cases hcalled
    · rintro ⟨d, hd, hcalled⟩
      rcases hmem.mp hd with rfl | ⟨hd, -⟩
      · rw [hwaiting] at hcalled; cases hcalled
      · exact ⟨d, hd, hcalled⟩
  · rw [State.kind, hround]
    exact ⟨hkind, hstate.elim .inl (.inr ∘ .inl)⟩

section
variable {f : SeatFrame} (hs : ContestCore s) (hkind : s.kind = some .buzz)
  (hstate : s.round.state = .opened ∨ s.round.state = .settling) (hteam : (s.seat f.seat).team = some x)
  (hplays : (s.team x).state = .active)
include hs hkind hstate hteam hplays

theorem insertClaim_core (offset : Nat) (hnone : s.claimOf x = none) : ContestCore (insertClaim x f.seat offset s) := by
  obtain ⟨hround, hclaims, hclear⟩ := hs
  generalize hmade : ({ team := x, seat := f.seat, offset, called := false, overtaken := s.overtakes offset } : Claim) = made
  have hplaced : RecordsKept s { s with ladder := placeClaim s.round.tieStart made s.ladder } :=
    .of_same rfl rfl (fun _ => rfl) (fun _ => rfl) fun _ => rfl
  have hlit := hplaced.trans (lampWrite_kept (i := f.seat) (v := .wait)
    (.inl (by rw [hplaced.bound, hteam]; exact Option.some_ne_none _)))
  have hothers : s.ladder.filter (·.team ≠ made.team) = s.ladder :=
    List.filter_eq_self.mpr fun d hd => by subst hmade; simpa using claimOf_eq_none.mp hnone d hd
  have hready := hclaims.ready_of_joined (c := made)
    (u := lampWrite f.seat .wait { s with ladder := placeClaim s.round.tieStart made s.ladder })
    (by rw [hothers, lampWrite_ladder]) (by subst hmade; rfl)
    (fun d hd e => absurd (by subst hmade; exact e) (claimOf_eq_none.mp hnone d hd)) (by subst hmade; exact ⟨hplays, hteam⟩)
    hkind hstate hlit.round (fun y => by rw [lampWrite_team]; rfl) hlit.bound (by rw [lampWrite_clock])
  have hcore := rearmCall_core hready (fun _ => by rw [lampWrite_ladder]; exact placeClaim_ne_nil)
    (hlit.roundInOrder hround) (hlit.unboundClear hclear)
  subst hmade
  exact hcore

theorem replaceClaim_core {old : Claim} (offset : Nat) (hold : s.claimOf x = some old) (hwaiting : old.called = false) :
    ContestCore (replaceClaim old f.seat offset s) := by
  obtain ⟨hmem, rfl⟩ := claimOf_eq_some hold
  obtain ⟨hround, hclaims, hclear⟩ := hs
  generalize hmade : ({ team := old.team, seat := f.seat, offset, called := false, overtaken := s.overtakes offset } : Claim) =
    made
  generalize hp : ({ s with ladder := placeClaim s.round.tieStart made (s.ladder.filter (·.team ≠ old.team)) } : State) = placed
  have hplaced : RecordsKept s placed := by
    rw [← hp]; exact .of_same rfl rfl (fun _ => rfl) (fun _ => rfl) fun _ => rfl
  have hidled : RecordsKept s (if old.seat = f.seat then placed else lampWrite old.seat .idle placed) := by
    split
    · exact hplaced
    · exact hplaced.trans (lampWrite_kept (.inr rfl))
  have hlit := hidled.trans (lampWrite_kept (i := f.seat) (v := .wait)
    (.inl (by rw [hidled.bound, hteam]; exact Option.some_ne_none _)))
  generalize hu : lampWrite f.seat .wait (if old.seat = f.seat then placed else lampWrite old.seat .idle placed) = u at hlit
  have hladder : u.ladder = placed.ladder := by
    rw [← hu, lampWrite_ladder]; split
    · rfl
    · exact lampWrite_ladder _ _ _
  have hplace : placed.ladder = placeClaim s.round.tieStart made (s.ladder.filter (·.team ≠ made.team)) := by
    rw [← hp, ← hmade]
  have hready := hclaims.ready_of_joined (c := made) (u := u) (hladder.trans hplace) (by subst hmade; rfl)
    (fun d hd e => by
      rw [hclaims.ready.order.eq_of_team hd hmem (by subst hmade; exact e)]; exact hwaiting)
    (by subst hmade; exact ⟨hplays, hteam⟩) hkind hstate hlit.round
    (fun y => by
      rw [← hu, lampWrite_team, ← hp]; split
      · rfl
      · rw [lampWrite_team]; rfl) hlit.bound (by
      rw [← hu, lampWrite_clock, ← hp]; split
      · rfl
      · rw [lampWrite_clock])
  have hcore := rearmCall_core hready (fun _ => by rw [hladder, hplace]; exact placeClaim_ne_nil)
    (hlit.roundInOrder hround) (hlit.unboundClear hclear)
  rw [← hu, ← hp, ← hmade] at hcore
  exact hcore

omit hkind hteam hplays in
theorem lockOutTeam_core (hwaiting : ∀ d, s.claimOf x = some d → d.called = false) : ContestCore (lockOutTeam x s) := by
  have hactive : s.roundActive = true := by
    rw [State.roundActive]; rcases hstate with e | e <;> rw [e] <;> rfl
  have hlock := lockTeam_kept hactive x
  unfold lockOutTeam
  dsimp only
  generalize hl : s.setTeam x { s.team x with locked := true } = locked at hlock
  have hsame (y : TeamNo) : (locked.team y).state = (s.team y).state := by
    rw [← hl, State.setTeam_team]; split
    · next e => rw [e]
    · rfl
  have hlocked : ContestCore locked :=
    hs.kept hlock (by rw [← hl]; rfl) (by rw [← hl]; rfl) fun c _ => hsame c.team
  have hremoved : ContestCore (if (s.claimOf x).isSome then rearmCall { locked with ladder := s.ladder.filter (·.team ≠ x) }
      else locked) ∧ ∀ i, ((if (s.claimOf x).isSome then rearmCall { locked with ladder := s.ladder.filter (·.team ≠ x) }
      else locked).seat i).team = (s.seat i).team := by
    split
    · next hsome =>
      obtain ⟨c, hc⟩ := Option.isSome_iff_exists.mp hsome
      obtain ⟨hmem, hcx⟩ := claimOf_eq_some hc
      obtain ⟨hround, hclaims, hclear⟩ := hs
      have hfilter : RecordsKept s { locked with ladder := s.ladder.filter (·.team ≠ x) } :=
        hlock.trans (.of_same rfl rfl (fun _ => rfl) (fun _ => rfl) fun _ => rfl)
      have hready := hclaims.ready_of_removed (u := { locked with ladder := s.ladder.filter (·.team ≠ x) }) hmem
        (by rw [hcx]) hfilter.round (fun y _ => hsame y) (fun i y _ hi => by rw [hfilter.bound]; exact hi)
        (by rw [hwaiting c hc, ← hl]; rfl)
      refine ⟨rearmCall_core hready (fun e => ?_) (hfilter.roundInOrder hround) (hfilter.unboundClear hclear), fun i => ?_⟩
      · rw [hfilter.round] at e
        rcases hstate with h | h <;> rw [h] at e <;> cases e
      · rw [rearmCall_bound, hfilter.bound]
    · exact ⟨hlocked, hlock.bound⟩
  obtain ⟨hcore, hbound⟩ := hremoved
  refine hcore.lampWrites fun i l hi => .inl ?_
  split at hi
  · next e => rw [hbound, e]; exact Option.some_ne_none _
  · cases hi

theorem ladderPress_core : ContestCore (ladderPress x f s) := by
  unfold ladderPress
  dsimp only
  split; · exact hs
  split; · exact hs
  next hnotCalled =>
  have hwaiting (d : Claim) (hd : s.claimOf x = some d) : d.called = false := by
    rw [hd] at hnotCalled; simpa using hnotCalled
  split; · exact hs
  split
  · split
    · exact lockOutTeam_core hs hstate hwaiting
    · exact hs
  split; · exact hs
  split
  · next c hc =>
    split
    · exact replaceClaim_core hs hkind hstate hteam hplays _ hc (hwaiting c hc)
    · exact hs
  · next hnone => exact insertClaim_core hs hkind hstate hteam hplays _ hnone

end

/-! ## Presses at the sheet (R125 to R129) -/

theorem sheetPress_core {f : SeatFrame} (choices : Nat) (hs : ContestCore s)
    (hstate : s.round.state = .opened ∨ s.round.state = .settling) (hbound : (s.seat f.seat).team ≠ none) :
    ContestCore (sheetPress choices f s) := by
  have hactive : s.roundActive = true := by
    rw [State.roundActive]; rcases hstate with e | e <;> rw [e] <;> rfl
  have hstored (e : SheetEntry) : ContestCore (storeAnswer f.seat e s) :=
    (hs.kept (setEntry_kept (.inl hbound)) rfl rfl fun _ _ => rfl).lampWrite (.inl hbound)
  have hlocked : ContestCore (lockOutSeat f.seat s) := by
    have hlock := hs.kept (setSeat_kept (i := f.seat) (v := { s.seat f.seat with locked := true }) rfl
      (fun _ => .inr ⟨hactive, hbound⟩) fun _ => .inl rfl) rfl rfl fun _ _ => rfl
    have hremoved := hlock.kept (setEntry_kept (i := f.seat) (.inr rfl)) rfl rfl fun _ _ => rfl
    refine hremoved.lampWrite (.inl ?_)
    rw [State.setEntry_seat, State.setSeat_seat_same]
    exact hbound
  unfold sheetPress
  split; · exact hs
  split; · exact hs
  split; · exact hs
  split
  · split
    · exact hlocked
    · exact hs
  split; · exact hs
  split
  · exact hstored _
  · split
    · exact hstored _
    · exact hs

theorem handPress_core (f : SeatFrame) (hs : ContestCore s) : ContestCore (handPress f s) := by
  unfold handPress
  split
  · next hpress =>
    split
    · next x hteam =>
      split
      · next hplays =>
        split
        · next hkind =>
          split
          · exact ladderPress_core hs hkind hpress.2 hteam hplays
          · exact hs
        · split
          · exact sheetPress_core _ hs hpress.2 (by rw [hteam]; exact Option.some_ne_none _)
          · exact hs
        · exact hs
      · exact hs
    · exact hs
  · exact hs

end Sys2Proof.Machine
end

section
/-! PROOFS. Every event of the device leaves the contest in order. -/

namespace Sys2Proof.Machine

variable {s t u : State} {c d : Claim} {x : TeamNo}

/-! ## The clock's events (R64 to R73) -/

theorem enterSettling_core (instant : Nat) (hs : ContestCore s) (hopened : s.round.state = .opened) :
    ContestCore (enterSettling instant s) := by
  obtain ⟨⟨hbody, houtcome, hcount, hrunning, hwindow, hsettling, hteams, hseats⟩, hclaims, hclear⟩ := hs
  have hactive : s.roundActive = true := by rw [State.roundActive, hopened]; rfl
  obtain ⟨body, hsome⟩ : ∃ body, s.round.body = some body := Option.ne_none_iff_exists'.mp fun e => by
    rw [hbody.mp e] at hopened; cases hopened
  have hopenOutcome : s.round.outcome.isSome = false := by
    rw [Bool.eq_false_iff]; intro e; rw [houtcome.mp e] at hopened; cases hopened
  refine ⟨?_, ?_, hclear⟩
  · refine ⟨?_, ?_, hcount, fun _ => rfl, rfl, ?_, fun _ _ => rfl, fun _ _ => rfl⟩
    · simp [enterSettling, hsome]
    · simp [enterSettling, hopenOutcome]
    · simp [enterSettling, State.closeInstant, hsome]
  · obtain ⟨horder, hstands, hcompares, hbuzz, -⟩ := hclaims
    have hkind : (enterSettling instant s).kind = s.kind := by simp [enterSettling, State.kind, hsome]
    have hcopy : (enterSettling instant s).copy = s.copy := by simp [enterSettling, State.copy, hsome]
    refine ⟨horder, hstands, ?_, fun hne => ⟨hkind.trans (hbuzz hne).1, .inr (.inl rfl)⟩, fun e => by cases e⟩
    unfold ComparesFollowLadder
    rw [hcopy]
    exact hcompares

theorem windowEnd_core (hs : ContestCore s) : ContestCore (windowEnd s) := by
  unfold windowEnd
  split
  · next h => exact enterSettling_core s.window hs h.2.2
  · exact hs

/-- What the settling end leaves of a round in SETTLING (R85, R87). -/
theorem settle_core (hs : ContestCore s) (hsettling : s.round.state = .settling) :
    ContestCore (settle { s with clock := { s.clock with settlingEnd := none } }) := by
  obtain ⟨⟨hbody, houtcome, hcount, hrunning, hwindow, -, hteams, hseats⟩, hclaims, hclear⟩ := hs
  have hsome : s.round.body ≠ none := fun e => by rw [hbody.mp e] at hsettling; cases hsettling
  have hnoOutcome : s.round.outcome = none := by
    rw [← Option.not_isSome_iff_eq_none]; intro e; rw [houtcome.mp e] at hsettling; cases hsettling
  have hdisarmed : s.clock.windowEnd = none := by rw [hwindow, hsettling]; rfl
  unfold settle
  split
  · next hkind =>
    split
    · exact closeRound_core .noWinner hsome hcount hclear
    · next hne =>
      have hladder : s.ladder ≠ [] := by simpa using hne
      obtain ⟨horder, hstands, hcompares, hbuzz, -⟩ := hclaims
      refine ⟨⟨?_, ?_, hcount, fun _ => rfl, ?_, rfl, fun _ _ => rfl, fun _ _ => rfl⟩,
        ⟨horder, hstands, hcompares, fun _ => ⟨hkind, .inr (.inr rfl)⟩, fun _ => hladder⟩, hclear⟩
      · simp [hsome]
      · simp [hnoOutcome]
      · exact hdisarmed
  · next key hkind =>
    generalize hp : ({ s with clock := { s.clock with settlingEnd := none } } : State) = p
    have hclosed : ContestCore (closeRound .scored (scorePoll key p)) := by
      refine closeRound_core .scored ?_ ?_ fun i hi => ?_
      · rw [scorePoll_round, ← hp]; exact hsome
      · rw [scorePoll_clock, ← hp]; exact hcount
      · rw [scorePoll_seat, ← hp] at hi ⊢
        rw [scorePoll_entry]
        exact hclear i hi
    exact hclosed
  · next hkind =>
    have hnil : s.ladder = [] := by
      by_contra hne
      obtain ⟨-, -, -, hbuzz, -⟩ := hclaims
      have hpoll : s.kind = _ := hkind
      rw [(hbuzz hne).1] at hpoll
      cases hpoll
    obtain ⟨horder, hstands, hcompares, -, -⟩ := hclaims
    refine ⟨⟨?_, ?_, hcount, fun _ => rfl, ?_, rfl, fun _ _ => rfl, fun _ _ => rfl⟩,
      ⟨horder, hstands, hcompares, fun e => absurd hnil e, fun e => by cases e⟩, hclear⟩
    · simp [enterKeywait, hsome]
    · simp [enterKeywait, hnoOutcome]
    · exact hdisarmed
  · next hkind =>
    have : s.round.body = none := by simpa [State.kind] using hkind
    exact absurd this hsome

theorem ContestCore.ended (hs : ContestCore t) (before : State) : ContestCore (endEvent before t) :=
  hs.of_part (endEvent_contestPart before t)

theorem settlingEnd_core (hs : ContestCore s) : ContestCore (settlingEnd s) := by
  unfold settlingEnd
  split
  · next h => exact (settle_core hs h.2.2).ended s
  · exact hs

/-- The call is armed for a WAITING head alone (R72). -/
theorem callEvent_core (hs : ContestCore s) : ContestCore (callEvent s) := by
  unfold callEvent
  split
  · refine ContestCore.ended ?_ s
    obtain ⟨hround, hclaims, hclear⟩ := hs
    have hready := hclaims.ready
    have hkept := callHead_kept fun _ hc => hready.bound hc
    refine ⟨hkept.roundInOrder hround, ?_, hkept.unboundClear hclear⟩
    cases hladder : s.ladder with
    | nil =>
      have hsame : callHead s = s := by unfold callHead; rw [hladder]
      rw [hsame]; exact hclaims
    | cons head rest => exact hready.called hladder
  · exact hs

theorem judgeDeadlineEvent_core (hs : ContestCore s) : ContestCore (judgeDeadlineEvent s) := by
  unfold judgeDeadlineEvent
  split
  · next hdue =>
    split
    · next c hcalled =>
      obtain ⟨hmem, hc⟩ := calledClaim_eq_some hcalled
      refine ContestCore.ended (timeOut_core hs hmem hc ?_) s
      exact ⟨.of_same rfl rfl (fun _ => rfl) (fun _ => rfl) fun _ => rfl, rfl, fun _ => rfl⟩
    · next hnone =>
      have hdeadline : s.clock.judgeDeadline = none := by
        refine Option.not_isSome_iff_eq_none.mp fun e => ?_
        obtain ⟨c, hc, hcalled⟩ := hs.2.1.ready.deadline.mp e
        exact List.find?_eq_none.mp hnone c hc hcalled
      have hsame : ({ s with clock := { s.clock with judgeDeadline := none } } : State) = s := by
        rw [← hdeadline]
      rw [hsame]; exact hs
  · exact hs

theorem controllerEvent_core (hs : ContestCore s) : ContestCore (controllerEvent s) := by
  unfold controllerEvent
  split
  · exact windowEnd_core hs
  · exact settlingEnd_core hs

theorem ladderEvent_core (hs : ContestCore s) : ContestCore (ladderEvent s) := by
  unfold ladderEvent
  split
  · exact callEvent_core hs
  · exact judgeDeadlineEvent_core hs

theorem takeDueEvents_core (hs : ContestCore s) : ContestCore (takeDueEvents s) := by
  have hcounted : ContestCore { s with freeIndex := s.freeIndex + 1 } := hs
  unfold takeDueEvents
  dsimp only
  split
  · split
    · exact controllerEvent_core (ladderEvent_core hcounted)
    · exact ladderEvent_core (controllerEvent_core hcounted)
  · exact ladderEvent_core (controllerEvent_core hs)

theorem Clock.rise_fields (k : Clock) : k.rise.count ≤ max maxCount k.count ∧ (k.rise.running = true → k.running = true) ∧
    k.rise.windowEnd = k.windowEnd ∧ k.rise.settlingEnd = k.settlingEnd ∧ k.rise.call = k.call ∧
    k.rise.judgeDeadline = k.judgeDeadline := by
  unfold Clock.rise
  split
  · next h => exact ⟨by dsimp only; omega, id, rfl, rfl, rfl, rfl⟩
  · exact ⟨Nat.le_max_left _ _, by rintro ⟨⟩, rfl, rfl, rfl, rfl⟩

theorem roundClockStep_core (hs : ContestCore s) : ContestCore (roundClockStep s) := by
  unfold roundClockStep
  dsimp only
  split
  · have htaken := takeDueEvents_core hs
    split
    · obtain ⟨⟨hbody, houtcome, hcount, hrunning, hwindow, hsettling, hteams, hseats⟩, ⟨horder, hstands, hcompares, hrest⟩,
        hclear⟩ := htaken
      obtain ⟨hle, hrises, hw, hse, hcall, hdeadline⟩ := (takeDueEvents s).clock.rise_fields
      refine ⟨⟨hbody, houtcome, ?_, fun e => hrunning (hrises e), hw.trans hwindow, hse.trans hsettling, hteams, hseats⟩,
        ⟨horder, hstands, ?_, hrest⟩, hclear⟩
      · exact hle.trans (max_le (Nat.le_refl _) hcount)
      · unfold ComparesFollowLadder
        dsimp only
        rw [hcall, hdeadline]
        exact hcompares
    · exact htaken
  · exact hs

/-! ## Fresh contests (R76, R79, R95) -/

theorem core_of_initial (hround : t.round = Round.initial) (hclock : t.clock = Clock.initial) (hladder : t.ladder = [])
    (hteam : ∀ y, (t.team y).locked = false) (hseat : ∀ i, (t.seat i).locked = false ∧ (t.seat i).lamp = .idle)
    (hentry : ∀ i, t.entry i = none) : ContestCore t := by
  refine ⟨?_, ladderInOrder_of_nil hladder (by rw [hclock]; rfl) (by rw [hclock]; rfl)
    (by rw [hround]; exact RoundState.noConfusion), fun i _ => ⟨(hseat i).1, hentry i, (hseat i).2⟩⟩
  unfold RoundInOrder
  simp [hround, hclock, hteam, hseat, Round.initial, Clock.initial]

theorem openRound_core (kind : RoundKind) (window : Nat) (s : State) : ContestCore (openRound kind window s) := by
  refine ContestCore.of_part ?_ (contestPart_of_boards (openRound_spec s kind window))
  refine ⟨?_, ladderInOrder_of_nil rfl rfl rfl RoundState.noConfusion, fun i _ => ?_⟩
  · unfold RoundInOrder
    simp [Clock.initial, State.window, State.roundActive, RoundState.active, State.team, State.seat]
  · simp [State.seat, State.entry]

theorem resetSession_core (s : State) : ContestCore (resetSession s) := by
  refine ContestCore.of_part ?_ (contestPart_of_boards (resetSession_spec s))
  refine core_of_initial rfl rfl rfl (fun y => ?_) (fun i => ?_) fun i => ?_
  · simp [State.team, Team.initial]
  · simp [State.seat]
  · simp [State.entry]

/-! ## Teams (R9 to R21) -/

theorem ContestCore.updateStandings (hs : ContestCore s) : ContestCore (updateStandings s) :=
  hs.kept (updateStandings_kept s) (updateStandings_ladder s) (updateStandings_clock s)
    fun c _ => by rw [updateStandings_team]

/-- A team's record is written, its lock not set, and its state only where it holds no claim. -/
theorem ContestCore.setTeam (hs : ContestCore s) {v : Team} (hlock : v.locked = true → (s.team x).locked = true)
    (hstate : v.state = (s.team x).state ∨ ∀ c ∈ s.ladder, c.team ≠ x) : ContestCore (s.setTeam x v) := by
  refine hs.kept (setTeam_kept hlock) rfl rfl fun c hc => ?_
  rw [State.setTeam_team]
  split
  · next e => subst e; exact hstate.resolve_right fun h => h c hc rfl
  · rfl

/-- A team that is not ACTIVE holds no claim (R97). -/
theorem ContestCore.no_claim (hs : ContestCore s) (h : (s.team x).state ≠ .active) : ∀ c ∈ s.ladder, c.team ≠ x := by
  rintro c hc rfl
  exact h (hs.2.1.ready.stands c hc).1

theorem writeScore_core {v : Team} (hs : ContestCore s) (hlock : v.locked = (s.team x).locked)
    (hstate : v.state = (s.team x).state) : ContestCore (writeScore x v s) :=
  hs.kept (writeScore_kept hlock) (writeScore_ladder s x v) (writeScore_clock s x v)
    fun c _ => writeScore_state x c.team v hstate

theorem retireTeam_core (hs : ContestCore s) : ContestCore (retireTeam x s) := by
  have hunbound := unbindMembers_core x (dropTeamClaim_core (x := x) hs (.refl s) rfl rfl fun _ _ => rfl)
  have hfree := unbindMembers_unbound x (dropTeamClaim x s)
  refine ContestCore.updateStandings (hunbound.setTeam (fun e => nomatch e) (.inr fun c hc e => ?_))
  exact hfree c.seat (by rw [hunbound.2.1.bound hc, e])

/-! ## The key of a POLL round (R89) -/

theorem storeKey_body (key : Nat) (s : State) : (storeKey key s).window = s.window ∧
    (storeKey key s).closeInstant = s.closeInstant ∧ (storeKey key s).copy = s.copy := by
  unfold State.window State.closeInstant State.copy storeKey
  simp only [Option.map_map]
  exact ⟨rfl, rfl, rfl⟩

theorem storeKey_roundActive (key : Nat) (s : State) : (storeKey key s).roundActive = s.roundActive := rfl

/-- A POLL round has no claims (R97). -/
theorem LadderInOrder.nil_of_poll (h : LadderInOrder s) {choices : Nat} {key : Option Nat}
    (hkind : s.kind = some (.poll choices key)) : s.ladder = [] := by
  by_contra hne
  have hbuzz := (h.ready.active hne).1
  rw [hkind] at hbuzz
  cases hbuzz

theorem storeKey_core (key : Nat) (hs : ContestCore s) {choices : Nat} {old : Option Nat}
    (hkind : s.kind = some (.poll choices old)) : ContestCore (storeKey key s) := by
  obtain ⟨⟨hbody, houtcome, hcount, hrunning, hwindow, hsettling, hteams, hseats⟩, hclaims, hclear⟩ := hs
  have hnil := hclaims.nil_of_poll hkind
  obtain ⟨-, -, ⟨hcompares, -⟩, -, hdrained⟩ := hclaims
  obtain ⟨hw, hc, -⟩ := storeKey_body key s
  obtain ⟨hcall, hdeadline⟩ := hcompares hnil
  refine ⟨⟨?_, houtcome, hcount, hrunning, by rw [hw]; exact hwindow, by rw [hc]; exact hsettling, hteams, hseats⟩,
    ladderInOrder_of_nil hnil hcall hdeadline fun e => hdrained e hnil, hclear⟩
  unfold storeKey
  simpa using hbody

/-! ## Every event -/

theorem recallWrites_outside (m : RuleStore) (s : State) : (recallWrites m s).outsideRuleWrites = s.outsideRuleWrites :=
  foldl_keeps State.outsideRuleWrites (fun s r => writeRule r (clampRule (s.rule Rule.holdUpper) r m.values[r].toNat) s)
    (fun s r => writeRule_outside r (clampRule (s.rule Rule.holdUpper) r m.values[r].toNat) s) (List.finRange 26) s

theorem contestPart_of_ruleWrites (h : t.outsideRuleWrites = s.outsideRuleWrites) : t.contestPart = s.contestPart := by
  have e := congrArg State.contestPart h; exact e

theorem finishRecall_contestPart (s : State) : (finishRecall s).1.contestPart = s.contestPart := by
  unfold finishRecall
  split
  · exact (endEvent_contestPart s _).trans (contestPart_of_ruleWrites (recallWrites_outside s.store s))
  · rfl

theorem storeComplete_contestPart (s : State) : (storeComplete s).contestPart = s.contestPart := by
  unfold storeComplete; split <;> rfl

theorem toRest_contestPart (phase : Phase) (s : State) : (toRest phase s).contestPart = s.contestPart := by
  unfold toRest abandonStore; split <;> rfl

theorem requestTaken_contestPart (s : State) : (requestTaken s).contestPart = s.contestPart :=
  (contestPart_of_boards (requestTaken_frame s)).trans rfl

theorem revealLevelTaken_contestPart (s : State) : (revealLevelTaken s).contestPart = s.contestPart :=
  (contestPart_of_boards (revealLevelTaken_frame s)).trans rfl

theorem startUpEnd_contestPart (s : State) : (startUpEnd s).contestPart = s.contestPart :=
  (contestPart_of_ruleWrites (startUpEnd_outside s)).trans rfl

theorem characterEnd_contestPart (n : LineNo) (c : Byte) (s : State) : (characterEnd n c s).contestPart = s.contestPart := by
  have e := congrArg State.contestPart (characterEnd_frame s n c); exact e

theorem gapLimit_contestPart (n : LineNo) (s : State) : (gapLimit n s).contestPart = s.contestPart := by
  have e := congrArg State.contestPart (gapLimit_frame s n); exact e

theorem housekeepingExpiry_kept (s : State) : RecordsKept s (housekeepingExpiry s) := by
  have htick (v : Seat) : v.tick.team = v.team ∧ v.tick.locked = v.locked ∧ v.tick.lamp = v.lamp := by
    unfold Seat.tick; split <;> exact ⟨rfl, rfl, rfl⟩
  have hticked : RecordsKept s (s.mapSeats Seat.tick) := by
    refine ⟨rfl, rfl, fun _ => .inl, fun i => ?_, fun i => ?_, fun i => ?_, fun _ _ => .inl rfl⟩
    all_goals rw [State.mapSeats_seat]
    · rw [(htick _).2.1]; exact .inl
    · exact (htick _).1
    · exact fun _ => .inl (htick _).2.2
  unfold housekeepingExpiry
  dsimp only
  split
  · split
    · exact hticked.trans (setNotice_kept _ _)
    · exact hticked
  · exact .refl s

theorem watchdogExpiry_core (hs : ContestCore s) : ContestCore (watchdogExpiry s) := by
  unfold watchdogExpiry
  split
  · split
    · dsimp only
      split
      · refine ContestCore.ended (ContestCore.of_part ?_ (contestPart_of_boards (resolveBoards_frame _))) s
        rw [abandonRound_eq]
        split
        · next hactive => exact closeRound_core .abandoned (hs.1.body_ne_none hactive) hs.1.count_le hs.2.2
        · exact hs
      · exact hs
    · exact hs
  · exact hs
  · exact hs

theorem seatTableTake_core (n : LineNo) (hs : ContestCore s) : ContestCore (seatTableTake n s) := by
  unfold seatTableTake
  split
  · exact hs
  · next f _ _ =>
    split
    · refine ContestCore.ended (handPress_core f ?_) s
      generalize hv : s.setLine n ((s.line n).take (s.rule Rule.holdLower)) = v
      have htaken : ContestCore v := by rw [← hv]; exact hs
      have hframe := updatePresence_frame v f
      have hclock := congrArg State.clock (updatePresence_outside f v)
      have hladder := congrArg State.ladder (updatePresence_outside f v)
      exact htaken.kept (updatePresence_kept f v) hladder hclock
        fun c _ => by have e := congrArg (fun w => (State.team w c.team).state) (updatePresence_outside f v); exact e
    · exact hs

theorem core_of_service (h : Service s t) (hs : ContestCore s) : ContestCore t := by
  cases h with
  | unchanged => exact hs
  | clearNotices | storeRules => exact hs
  | resetSession => exact (resetSession_core s).ended s
  | enrolTeam score hfree =>
    exact ContestCore.updateStandings (hs.setTeam (fun e => nomatch e) (.inr (hs.no_claim (by rw [hfree]; decide))))
  | renameTeam =>
    unfold renameTeam; dsimp only; split
    · exact ContestCore.updateStandings (hs.setTeam id (.inl rfl))
    · exact hs.setTeam id (.inl rfl)
  | @benchTeam x =>
    have hbenched : RecordsKept s (setTeamState x .benched s) := setTeam_kept id
    have hdropped := dropTeamClaim_core (x := x) hs hbenched rfl rfl fun y hy => by
      rw [setTeamState, State.setTeam_team_of_ne _ _ _ _ hy]
    exact hdropped.ended s
  | recallTeam hbenched => exact hs.setTeam id (.inr (hs.no_claim (by rw [hbenched]; decide)))
  | retireTeam => exact (retireTeam_core hs).ended s
  | purgeTeam hretired => exact hs.setTeam id (.inr (hs.no_claim (by rw [hretired]; decide)))
  | @changeScore x _ wanted =>
    unfold changeScore
    exact writeScore_core hs rfl rfl
  | @bindSeat i x => exact (bindSeat_core i hs).ended s
  | unbindSeat i => exact (unbindSeat_core i hs).ended s
  | openRound => exact (openRound_core _ _ s).ended s
  | closeRound hopened => exact enterSettling_core _ hs hopened
  | abandonRound hactive => exact (closeRound_core .abandoned (hs.1.body_ne_none hactive) hs.1.count_le hs.2.2).ended s
  | storeKey hstate hkind => exact storeKey_core _ hs hkind
  | scoreKey hstate hkind =>
    refine ContestCore.ended ?_ s
    obtain ⟨hround, -, hclear⟩ := storeKey_core _ hs hkind
    refine closeRound_core .scored ?_ ?_ fun i hi => ?_
    · rw [scorePoll_round]
      exact hround.body_ne_none (by rw [storeKey_roundActive, State.roundActive, hstate]; rfl)
    · rw [scorePoll_clock]; exact hround.count_le
    · rw [scorePoll_seat] at hi ⊢
      rw [scorePoll_entry]
      exact hclear i hi
  | @judge d _ v hcalled =>
    obtain ⟨hmem, hd⟩ := calledClaim_eq_some hcalled
    refine ContestCore.ended ?_ s
    cases v with
    | right => exact judgeRight_core hs hmem
    | wrong => exact judgeWrong_core hs hmem hd (.refl s)
    | pass => exact judgePass_core hs hmem hd (.refl s)
  | setConfig => exact hs.of_part (contestPart_of_ruleWrites (writeRule_outside _ _ s))
  | setMessage b text => exact hs.of_part (contestPart_of_boards (storeMessage_frame b text s))
  | setRule r v =>
    exact hs.of_part ((endEvent_contestPart s _).trans (contestPart_of_ruleWrites (writeRule_outside r _ s)))

theorem core_of_event (h : Event s t) (hs : ContestCore s) : ContestCore t := by
  cases h with
  | port h =>
    have e := congrArg State.contestPart h
    exact hs.of_part e
  | powerOn => unfold powerOn; split <;> exact hs
  | powerLoss =>
    unfold powerLoss; split
    · exact hs
    · exact hs.of_part (toRest_contestPart _ s)
  | resetPinLow =>
    unfold resetPinLow; split
    · exact hs
    · exact hs.of_part (toRest_contestPart _ s)
  | startUp =>
    unfold startUp; split
    · refine core_of_initial rfl rfl rfl (fun y => ?_) (fun i => ?_) fun i => ?_
      · simp [State.team, State.powerOnValues, Team.initial]
      · simp [State.seat, State.powerOnValues, Seat.initial]
      · simp [State.entry, State.powerOnValues]
    · exact hs
  | startUpEnd => exact hs.of_part (startUpEnd_contestPart s)
  | revealPinChange => exact hs
  | revealLevelTaken => exact hs.of_part (revealLevelTaken_contestPart s)
  | storeComplete => exact hs.of_part (storeComplete_contestPart s)
  | recallFinished => exact hs.of_part (finishRecall_contestPart s)
  | watchdogExpiry => exact watchdogExpiry_core hs
  | startEdge n b => exact hs.of_part (contestPart_of_lines (startEdge_frame s n b))
  | gapLimit n => exact hs.of_part (gapLimit_contestPart n s)
  | characterEnd n c => exact hs.of_part (characterEnd_contestPart n c s)
  | seatTableTake n => exact seatTableTake_core n hs
  | housekeepingExpiry =>
    have hladder := congrArg State.ladder (housekeepingExpiry_outside s)
    have hclock := congrArg State.clock (housekeepingExpiry_outside s)
    exact hs.kept (housekeepingExpiry_kept s) hladder hclock
      fun c _ => by have e := congrArg (fun w => (State.team w c.team).state) (housekeepingExpiry_outside s); exact e
  | downstreamFrameEnd n => exact hs.of_part (contestPart_of_lines (downstreamFrameEnd_frame s n))
  | roundClockStep => exact roundClockStep_core hs
  | windowEnd => exact windowEnd_core hs
  | settlingEnd => exact settlingEnd_core hs
  | callEvent => exact callEvent_core hs
  | judgeDeadlineEvent => exact judgeDeadlineEvent_core hs
  | transferEnd b => exact hs.of_part (contestPart_of_boards (transferEnd_frame s b))
  | requestTaken => exact hs.of_part (requestTaken_contestPart s)
  | service h => exact core_of_service h hs

theorem contestInOrder_of_event (h : Event s t) (hs : ContestInOrder s) : ContestInOrder t := by
  obtain ⟨hbindings, hcore⟩ := hs
  refine ⟨?_, core_of_event h hcore⟩
  have hwrites := writes_of_event h
  clear h hcore
  induction hwrites with
  | refl => exact hbindings
  | tail _ hlast ih => exact bindingsInOrder_of_write hlast ih

end Sys2Proof.Machine
end

section
/-! PROOFS. Every step keeps the round record in its ranges and every offset and choice within the round (R75, R78, R98,
R122). -/

namespace Sys2Proof.Machine

variable {s t u : State} {c d : Claim} {x : TeamNo}

/-! ## Operations that keep the round and its count -/

/-- The round, its count and its window compare stay; every claim and every answer is an old one or within the round. -/
structure OffsetsKept (s t : State) : Prop where
  round : t.round = s.round
  count : t.clock.count = s.clock.count
  windowEnd : t.clock.windowEnd = s.clock.windowEnd
  ladder (c : Claim) (h : c ∈ t.ladder) : (∃ d ∈ s.ladder, d.offset = c.offset) ∨ OffsetInRound s c.offset
  entry (i : SeatNo) (e : SheetEntry) (h : t.entry i = some e) :
    s.entry i = some e ∨ (choiceInRound s e = true ∧ OffsetInRound s e.offset)

theorem OffsetsKept.of_same (hround : t.round = s.round) (hcount : t.clock.count = s.clock.count)
    (hwindow : t.clock.windowEnd = s.clock.windowEnd) (hladder : ∀ c ∈ t.ladder, ∃ d ∈ s.ladder, d.offset = c.offset)
    (hentry : ∀ i e, t.entry i = some e → s.entry i = some e) : OffsetsKept s t :=
  ⟨hround, hcount, hwindow, fun c hc => .inl (hladder c hc), fun i e he => .inl (hentry i e he)⟩

theorem OffsetsKept.refl (s : State) : OffsetsKept s s :=
  .of_same rfl rfl rfl (fun c hc => ⟨c, hc, rfl⟩) fun _ _ h => h

theorem OffsetsKept.offset_iff (h : OffsetsKept s t) (offset : Nat) : OffsetInRound t offset ↔ OffsetInRound s offset := by
  unfold OffsetInRound State.closeInstant
  rw [h.round, h.count]

theorem OffsetsKept.choice_eq (h : OffsetsKept s t) (e : SheetEntry) : choiceInRound t e = choiceInRound s e := by
  unfold choiceInRound State.kind
  rw [h.round]

theorem OffsetsKept.trans (h : OffsetsKept s t) (k : OffsetsKept t u) : OffsetsKept s u where
  round := k.round.trans h.round
  count := k.count.trans h.count
  windowEnd := k.windowEnd.trans h.windowEnd
  ladder c hc := by
    rcases k.ladder c hc with ⟨d, hd, hoffset⟩ | hin
    · rw [← hoffset]; exact h.ladder d hd
    · exact .inr ((h.offset_iff _).mp hin)
  entry i e he := by
    rcases k.entry i e he with he | ⟨hchoice, hin⟩
    · exact h.entry i e he
    · exact .inr ⟨h.choice_eq e ▸ hchoice, (h.offset_iff _).mp hin⟩

theorem OffsetsKept.inOrder (h : OffsetsKept s t) (hs : OffsetsInOrder s) : OffsetsInOrder t := by
  obtain ⟨hbody, hclaims, hentries⟩ := hs
  refine ⟨?_, fun c hc => (h.offset_iff _).mpr ?_, fun i e he => ?_⟩
  · unfold RoundBodyInRange State.kind State.closeInstant State.window
    rw [h.round, h.count, h.windowEnd]
    exact hbody
  · rcases h.ladder c hc with ⟨d, hd, hoffset⟩ | hin
    · rw [← hoffset]; exact hclaims d hd
    · exact hin
  · rw [h.choice_eq, h.offset_iff]
    exact (h.entry i e he).elim (hentries i e) id

theorem OffsetsKept.of_part (h : t.contestPart = s.contestPart) : OffsetsKept s t := by
  have hround := congrArg State.round h
  have hclock := congrArg State.clock h
  have hladder := congrArg State.ladder h
  have hentry (i : SeatNo) : t.entry i = s.entry i := by
    have e := congrArg (State.entry · i) h; exact e
  exact .of_same hround (congrArg Clock.count hclock) (congrArg Clock.windowEnd hclock)
    (fun c hc => ⟨c, by rw [← (show t.ladder = s.ladder from hladder)]; exact hc, rfl⟩)
    fun i e he => (hentry i).symm.trans he

theorem OffsetsKept.of_records (hround : t.round = s.round) (hclock : t.clock = s.clock) (hladder : t.ladder = s.ladder)
    (hsheet : t.sheet = s.sheet) : OffsetsKept s t :=
  .of_same hround (by rw [hclock]) (by rw [hclock]) (fun c hc => ⟨c, hladder ▸ hc, rfl⟩)
    fun i e he => by rw [State.entry, hsheet] at he; exact he

theorem lampWrite_offsets (i : SeatNo) (v : Lamp) (s : State) : OffsetsKept s (lampWrite i v s) :=
  .of_records (lampWrite_round s i v) (lampWrite_clock s i v) (lampWrite_ladder s i v) (lampWrite_sheet s i v)

theorem lampWrites_offsets (v : SeatNo → Option Lamp) (s : State) : OffsetsKept s (lampWrites v s) :=
  have h := lampWrites_frame s v
  .of_records (State.round_of_lamps h) (State.clock_of_lamps h) (State.ladder_of_lamps h) (State.sheet_of_lamps h)

theorem setSeat_offsets (i : SeatNo) (v : Seat) (s : State) : OffsetsKept s (s.setSeat i v) := .of_records rfl rfl rfl rfl

theorem setTeam_offsets (y : TeamNo) (v : Team) (s : State) : OffsetsKept s (s.setTeam y v) := .of_records rfl rfl rfl rfl

theorem setNotice_offsets (k : Notice) (s : State) : OffsetsKept s (s.setNotice k) := .of_records rfl rfl rfl rfl

theorem clearEntry_offsets (i : SeatNo) (s : State) : OffsetsKept s (s.setEntry i none) :=
  .of_same rfl rfl rfl (fun c hc => ⟨c, hc, rfl⟩) fun j e he => by
    rw [State.setEntry_entry] at he
    split at he
    · cases he
    · exact he

theorem filterLadder_offsets (p : Claim → Bool) (s : State) : OffsetsKept s { s with ladder := s.ladder.filter p } :=
  .of_same rfl rfl rfl (fun c hc => ⟨c, (List.mem_filter.mp hc).1, rfl⟩) fun _ _ h => h

theorem removeCalled_offsets (c : Claim) (s : State) : OffsetsKept s (removeCalled c s) :=
  .of_same rfl rfl rfl (fun c hc => ⟨c, (List.mem_filter.mp hc).1, rfl⟩) fun _ _ h => h

theorem writeScore_offsets (y : TeamNo) (v : Team) (s : State) : OffsetsKept s (writeScore y v s) :=
  .of_records (writeScore_round s y v) (writeScore_clock s y v) (writeScore_ladder s y v) (writeScore_sheet s y v)

theorem updateStandings_offsets (s : State) : OffsetsKept s (updateStandings s) :=
  .of_records (updateStandings_round s) (updateStandings_clock s) (updateStandings_ladder s) (updateStandings_sheet s)

theorem scorePoll_offsets (key : Nat) (s : State) : OffsetsKept s (scorePoll key s) :=
  .of_records (scorePoll_round s key) (scorePoll_clock s key) (scorePoll_ladder s key) (scorePoll_sheet s key)

theorem updatePresence_offsets (f : SeatFrame) (s : State) : OffsetsKept s (updatePresence f s) := by
  have h := updatePresence_outside f s
  have hround := congrArg State.round h
  have hclock := congrArg State.clock h
  have hladder := congrArg State.ladder h
  have hsheet := congrArg State.sheet h
  exact .of_records hround hclock hladder hsheet

theorem callHead_offsets (s : State) : OffsetsKept s (callHead s) := by
  cases hladder : s.ladder with
  | nil =>
    have hsame : callHead s = s := by unfold callHead; rw [hladder]
    rw [hsame]; exact .refl s
  | cons head rest =>
    have hcalled : OffsetsKept s { s with
        ladder := { head with called := true } :: rest
        clock := { s.clock with call := none, judgeDeadline := some (s.clock.count + s.copy.judgeWindow) } } :=
      .of_same rfl rfl rfl (fun c hc => by
        rcases List.mem_cons.mp hc with rfl | hc
        · exact ⟨head, by rw [hladder]; exact .head _, rfl⟩
        · exact ⟨c, by rw [hladder]; exact .tail _ hc, rfl⟩) fun _ _ h => h
    rw [callHead_of_cons hladder]
    exact (hcalled.trans (lampWrite_offsets _ _ _)).trans (setNotice_offsets _ _)

theorem rearmCall_offsets (s : State) : OffsetsKept s (rearmCall s) := by
  have hclock (v : Option Nat) : OffsetsKept s { s with clock := { s.clock with call := v } } :=
    .of_same rfl rfl rfl (fun c hc => ⟨c, hc, rfl⟩) fun _ _ h => h
  unfold rearmCall
  split
  · exact hclock none
  · dsimp only
    split
    · exact hclock none
    · split
      · exact callHead_offsets s
      · exact hclock _

/-! ## The round's own changes -/

theorem closeRound_offsets (o : RoundOutcome) (hs : OffsetsInOrder s) : OffsetsInOrder (closeRound o s) := by
  obtain ⟨⟨hbody, hkind, -⟩, -, hentries⟩ := hs
  refine ⟨⟨?_, ?_, ?_⟩, ?_, fun i e he => ?_⟩
  · rw [closeRound_round]; exact hbody
  · rw [closeRound_kind]; exact hkind
  · rw [closeRound_round]; exact fun e => nomatch e
  · rw [closeRound_ladder]; exact fun c hc => absurd hc List.not_mem_nil
  · rw [closeRound_entry] at he
    obtain ⟨hchoice, hoffset, -⟩ := hentries i e he
    refine ⟨?_, ?_, ?_⟩
    · unfold choiceInRound; rw [closeRound_kind]; exact hchoice
    · unfold State.closeInstant; rw [closeRound_round]; exact hoffset
    · rw [closeRound_round]; exact fun e => nomatch e

theorem ladderGoesOn_offsets (hs : OffsetsInOrder s) : OffsetsInOrder (ladderGoesOn s) := by
  unfold ladderGoesOn
  split
  · exact closeRound_offsets _ hs
  · exact (rearmCall_offsets s).inOrder hs

/-- The round settles with a close instant that every offset has kept to (R71, R82, R83). -/
theorem enterSettling_offsets {instant : Nat} (hs : OffsetsInOrder s) (hopened : s.round.state = .opened)
    (hinstant : instant = s.window ∨ instant = s.clock.count) : OffsetsInOrder (enterSettling instant s) := by
  obtain ⟨⟨hbody, hkind, hopen⟩, hclaims, hentries⟩ := hs
  obtain ⟨hclose, -, hcount⟩ := hopen hopened
  have hle : instant ≤ s.window := by rcases hinstant with rfl | rfl <;> omega
  have hkept {offset : Nat} (h : OffsetInRound s offset) : offset ≤ instant := by
    obtain ⟨hlow, hhigh⟩ := h
    have := hhigh hopened
    rcases hinstant with rfl | rfl <;> omega
  have hsettled (offset : Nat) (h : OffsetInRound s offset) : OffsetInRound (enterSettling instant s) offset := by
    refine ⟨?_, fun e => by cases e⟩
    have hoffset := hkept h
    cases hb : s.round.body with
    | none =>
      have hnone : s.closeInstant = 0 := by simp [State.closeInstant, hb]
      have := h.1
      omega
    | some body => simpa [State.closeInstant, enterSettling, hb] using hoffset
  have hkind' : (enterSettling instant s).kind = s.kind := by simp [enterSettling, State.kind, Function.comp_def]
  refine ⟨⟨?_, ?_, fun e => by cases e⟩, fun c hc => hsettled _ (hclaims c hc), fun i e he => ?_⟩
  · intro body hb
    simp only [enterSettling, Option.mem_def, Option.map_eq_some_iff] at hb
    obtain ⟨old, hold, rfl⟩ := hb
    obtain ⟨hlow, hhigh, -⟩ := hbody old hold
    refine ⟨hlow, hhigh, ?_⟩
    simpa [State.window, hold] using hle
  · rw [hkind']; exact hkind
  · obtain ⟨hchoice, hoffset⟩ := hentries i e he
    exact ⟨by unfold choiceInRound; rw [hkind']; exact hchoice, hsettled _ hoffset⟩

/-- A round that is not open, of a body that stays. -/
theorem OffsetsInOrder.of_state (hs : OffsetsInOrder s) {state : RoundState} (hstate : state ≠ .opened)
    (hbody : t.round.body = s.round.body) (hround : t.round.state = state) (hladder : t.ladder = s.ladder)
    (hsheet : t.sheet = s.sheet) : OffsetsInOrder t := by
  obtain ⟨⟨hrange, hkind, -⟩, hclaims, hentries⟩ := hs
  have hoffset (offset : Nat) (h : OffsetInRound s offset) : OffsetInRound t offset := by
    refine ⟨?_, fun e => absurd (hround.symm.trans e) hstate⟩
    rw [State.closeInstant, hbody]; exact h.1
  have hk : t.kind = s.kind := by rw [State.kind, hbody]; rfl
  refine ⟨⟨by rw [hbody]; exact hrange, by rw [hk]; exact hkind, fun e => absurd (hround.symm.trans e) hstate⟩,
    fun c hc => hoffset _ (hclaims c (hladder ▸ hc)), fun i e he => ?_⟩
  rw [State.entry, hsheet] at he
  obtain ⟨hchoice, hin⟩ := hentries i e he
  exact ⟨by unfold choiceInRound; rw [hk]; exact hchoice, hoffset _ hin⟩

theorem OffsetsInOrder.ended (hs : OffsetsInOrder t) (before : State) : OffsetsInOrder (endEvent before t) :=
  hs.of_part (endEvent_contestPart before t)

/-! ## The clock's events -/

theorem windowEnd_offsets (hs : OffsetsInOrder s) : OffsetsInOrder (windowEnd s) := by
  unfold windowEnd
  split
  · next h => exact enterSettling_offsets hs h.2.2 (.inl rfl)
  · exact hs

theorem settlingEnd_offsets (hs : OffsetsInOrder s) : OffsetsInOrder (settlingEnd s) := by
  unfold settlingEnd
  split
  · next h =>
    have hdisarmed : OffsetsInOrder { s with clock := { s.clock with settlingEnd := none } } :=
      (OffsetsKept.of_same rfl rfl rfl (fun c hc => ⟨c, hc, rfl⟩) fun _ _ h => h).inOrder hs
    refine OffsetsInOrder.ended ?_ s
    unfold settle
    split
    · split
      · exact closeRound_offsets _ hdisarmed
      · exact hdisarmed.of_state (state := .draining) (by decide) rfl rfl rfl rfl
    · exact closeRound_offsets _ ((scorePoll_offsets _ _).inOrder hdisarmed)
    · exact hdisarmed.of_state (state := .keywait) (by decide) rfl rfl rfl rfl
    · exact hdisarmed
  · exact hs

theorem callEvent_offsets (hs : OffsetsInOrder s) : OffsetsInOrder (callEvent s) := by
  unfold callEvent
  split
  · exact ((callHead_offsets s).inOrder hs).ended s
  · exact hs

theorem verdictGiven_offsets (c : Claim) (v : Lamp) (s : State) : OffsetsKept s (verdictGiven c v s) :=
  ((setTeam_offsets _ _ s).trans (lampWrites_offsets _ _)).trans (removeCalled_offsets c _)

theorem judgeWrong_offsets (c : Claim) (hs : OffsetsInOrder s) : OffsetsInOrder (judgeWrong c s) :=
  ladderGoesOn_offsets (((writeScore_offsets _ _ s).trans (verdictGiven_offsets c .wrong _)).inOrder hs)

theorem judgePass_offsets (c : Claim) (hs : OffsetsInOrder s) : OffsetsInOrder (judgePass c s) :=
  ladderGoesOn_offsets ((verdictGiven_offsets c .locked s).inOrder hs)

theorem judgeRight_offsets (c : Claim) (hs : OffsetsInOrder s) : OffsetsInOrder (judgeRight c s) :=
  closeRound_offsets _ (((writeScore_offsets _ _ s).trans ((lampWrite_offsets _ _ _).trans (lampWrites_offsets _ _))).inOrder hs)

theorem judgeDeadlineEvent_offsets (hs : OffsetsInOrder s) : OffsetsInOrder (judgeDeadlineEvent s) := by
  have hdisarmed : OffsetsInOrder { s with clock := { s.clock with judgeDeadline := none } } :=
    (OffsetsKept.of_same rfl rfl rfl (fun c hc => ⟨c, hc, rfl⟩) fun _ _ h => h).inOrder hs
  unfold judgeDeadlineEvent
  split
  · split
    · next c _ =>
      refine OffsetsInOrder.ended ?_ s
      unfold timeOut
      split
      · exact judgeWrong_offsets c ((setNotice_offsets _ _).inOrder hdisarmed)
      · exact judgePass_offsets c ((setNotice_offsets _ _).inOrder hdisarmed)
    · exact hdisarmed
  · exact hs

theorem controllerEvent_offsets (hs : OffsetsInOrder s) : OffsetsInOrder (controllerEvent s) := by
  unfold controllerEvent
  split
  · exact windowEnd_offsets hs
  · exact settlingEnd_offsets hs

theorem ladderEvent_offsets (hs : OffsetsInOrder s) : OffsetsInOrder (ladderEvent s) := by
  unfold ladderEvent
  split
  · exact callEvent_offsets hs
  · exact judgeDeadlineEvent_offsets hs

/-- No window end is raised and untaken in an open round. -/
def WindowNotDue (s : State) : Prop := s.round.state = .opened → s.clock.due s.clock.windowEnd = false

theorem settlingEnd_windowNotDue (h : s.clock.due s.clock.windowEnd = false) : WindowNotDue (settlingEnd s) := by
  unfold settlingEnd
  split
  · next hsettling =>
    intro hopened
    rw [endEvent_round] at hopened
    have hsettled : (settle { s with clock := { s.clock with settlingEnd := none } }).round.state ≠ .opened := by
      unfold settle
      split
      · split
        · rw [closeRound_round]; exact RoundState.noConfusion
        · exact RoundState.noConfusion
      · unfold scoreAndClose; rw [closeRound_round]; exact RoundState.noConfusion
      · exact RoundState.noConfusion
      · intro e
        have : s.round.state = .opened := e
        rw [hsettling.2.2] at this
        cases this
    exact absurd hopened hsettled
  · exact fun _ => h

theorem controllerEvent_windowNotDue (hpowered : s.powered = true) : WindowNotDue (controllerEvent s) := by
  unfold controllerEvent
  split
  · next hdue =>
    unfold windowEnd
    split
    · rintro ⟨⟩
    · next hnot => exact fun hopened => absurd ⟨hpowered, hdue, hopened⟩ hnot
  · next hnot => exact settlingEnd_windowNotDue (by simpa using hnot)

/-- What the ladder's events leave of the round and the clock: all but the two compares of their own, or a close. -/
theorem ladderGoesOn_window (s : State) : (ladderGoesOn s).round.state = .closed ∨
    ((ladderGoesOn s).round = s.round ∧ { (ladderGoesOn s).clock with call := none, judgeDeadline := none } =
      { s.clock with call := none, judgeDeadline := none }) := by
  have hcall (s : State) : { (callHead s).clock with call := none, judgeDeadline := none } =
      { s.clock with call := none, judgeDeadline := none } := by
    cases hladder : s.ladder with
    | nil =>
      have hsame : callHead s = s := by unfold callHead; rw [hladder]
      rw [hsame]
    | cons head rest => rw [callHead_clock hladder]
  unfold ladderGoesOn
  split
  · exact .inl (by rw [closeRound_round])
  · refine .inr ⟨rearmCall_round s, ?_⟩
    unfold rearmCall
    split
    · rfl
    · dsimp only
      split
      · rfl
      · split
        · exact hcall s
        · rfl

theorem WindowNotDue.of_same (hs : WindowNotDue s) (hround : t.round.state = s.round.state)
    (hclock : { t.clock with call := none, judgeDeadline := none } = { s.clock with call := none, judgeDeadline := none }) :
    WindowNotDue t := by
  simp only [Clock.mk.injEq] at hclock
  obtain ⟨hc, hr, hw, -⟩ := hclock
  intro hopened
  have h := hs (hround.symm.trans hopened)
  unfold Clock.due at h ⊢
  rw [hc, hr, hw]
  exact h

theorem verdict_windowNotDue (c : Claim) (v : Lamp) (hs : WindowNotDue s) :
    WindowNotDue (ladderGoesOn (verdictGiven c v s)) := by
  have hframe : (verdictGiven c v s).round = s.round ∧
      { (verdictGiven c v s).clock with call := none, judgeDeadline := none } =
        { s.clock with call := none, judgeDeadline := none } := by
    have hround := State.round_of_lamps (lampWrites_frame (lockTeam c.team s) fun i =>
      if i = c.seat then some v else if ((lockTeam c.team s).seat i).team = some c.team then some .locked else none)
    have hclock := State.clock_of_lamps (lampWrites_frame (lockTeam c.team s) fun i =>
      if i = c.seat then some v else if ((lockTeam c.team s).seat i).team = some c.team then some .locked else none)
    exact ⟨hround, congrArg (fun k : Clock => { k with call := none, judgeDeadline := none }) hclock⟩
  rcases ladderGoesOn_window (verdictGiven c v s) with hclosed | ⟨hround, hclock⟩
  · intro hopened; rw [hclosed] at hopened; cases hopened
  · exact hs.of_same (by rw [hround, hframe.1]) (hclock.trans hframe.2)

theorem WindowNotDue.ended (hs : WindowNotDue t) (before : State) : WindowNotDue (endEvent before t) :=
  hs.of_same (by rw [endEvent_round]) (by rw [endEvent_clock])

theorem ladderEvent_windowNotDue (hs : WindowNotDue s) : WindowNotDue (ladderEvent s) := by
  unfold ladderEvent
  split
  · unfold callEvent
    split
    · have hkept := callHead_offsets s
      refine WindowNotDue.ended (hs.of_same (by rw [hkept.round]) ?_) s
      cases hladder : s.ladder with
      | nil =>
        have hsame : callHead s = s := by unfold callHead; rw [hladder]
        rw [hsame]
      | cons head rest => rw [callHead_clock hladder]
    · exact hs
  · unfold judgeDeadlineEvent
    split
    · have hdisarmed : WindowNotDue { s with clock := { s.clock with judgeDeadline := none } } := hs.of_same rfl rfl
      split
      · next c _ =>
        refine WindowNotDue.ended ?_ s
        unfold timeOut
        split
        · have hscored : WindowNotDue (scoreWrong c.team
              (({ s with clock := { s.clock with judgeDeadline := none } } : State).setNotice .judgeTimeout)) :=
            hdisarmed.of_same (by rw [scoreWrong, writeScore_round]; rfl) (by rw [scoreWrong, writeScore_clock]; rfl)
          exact verdict_windowNotDue c .wrong hscored
        · exact verdict_windowNotDue c .locked (hdisarmed.of_same rfl rfl)
      · exact hdisarmed
    · exact hs

theorem powered_of_contest (h : t.outsideContest = s.outsideContest) : t.powered = s.powered := by
  have e := congrArg State.powered h; exact e

theorem takeDueEvents_offsets (hpowered : s.powered = true) (hs : OffsetsInOrder s) :
    OffsetsInOrder (takeDueEvents s) ∧ WindowNotDue (takeDueEvents s) := by
  have hcounted : OffsetsInOrder { s with freeIndex := s.freeIndex + 1 } := hs
  unfold takeDueEvents
  dsimp only
  split
  · split
    · refine ⟨controllerEvent_offsets (ladderEvent_offsets hcounted), controllerEvent_windowNotDue ?_⟩
      have hframe : (ladderEvent { s with freeIndex := s.freeIndex + 1 }).outsideContest =
          State.outsideContest { s with freeIndex := s.freeIndex + 1 } := by
        unfold ladderEvent
        split
        · exact callEvent_frame _
        · exact judgeDeadlineEvent_frame _
      exact (powered_of_contest hframe).trans hpowered
    · exact ⟨ladderEvent_offsets (controllerEvent_offsets hcounted),
        ladderEvent_windowNotDue (controllerEvent_windowNotDue hpowered)⟩
  · exact ⟨ladderEvent_offsets (controllerEvent_offsets hs), ladderEvent_windowNotDue (controllerEvent_windowNotDue hpowered)⟩

/-- The count rises only behind the window end, which is taken first (R64, R69, R70). -/
theorem rise_offsets (hs : OffsetsInOrder s) (hnotDue : WindowNotDue s) (hrunning : s.clock.running = true) :
    OffsetsInOrder { s with clock := s.clock.rise } := by
  obtain ⟨⟨hbody, hkind, hopen⟩, hclaims, hentries⟩ := hs
  have hrise (hopened : s.round.state = .opened) : s.clock.rise.count ≤ s.window ∧ s.clock.count ≤ s.clock.rise.count := by
    obtain ⟨-, hwindow, hcount⟩ := hopen hopened
    have hdue := hnotDue hopened
    rw [hwindow] at hdue
    simp only [Clock.due, hrunning, Bool.true_and, decide_eq_false_iff_not, not_le] at hdue
    have hsmall : s.window ≤ 1000000 := by
      unfold State.window
      cases hb : s.round.body with
      | none => exact Nat.zero_le _
      | some body => exact (hbody body hb).2.1
    unfold Clock.rise
    split
    · dsimp only; omega
    · next hmax => simp only [maxCount] at hmax; omega
  have hoffset (offset : Nat) (h : OffsetInRound s offset) : OffsetInRound { s with clock := s.clock.rise } offset :=
    ⟨h.1, fun hopened => (h.2 hopened).trans (hrise hopened).2⟩
  refine ⟨⟨hbody, hkind, fun hopened => ?_⟩, fun c hc => hoffset _ (hclaims c hc), fun i e he => ?_⟩
  · obtain ⟨hclose, hwindow, -⟩ := hopen hopened
    exact ⟨hclose, s.clock.rise_fields.2.2.1.trans hwindow, (hrise hopened).1⟩
  · obtain ⟨hchoice, hin⟩ := hentries i e he
    exact ⟨hchoice, hoffset _ hin⟩

theorem roundClockStep_offsets (hs : OffsetsInOrder s) : OffsetsInOrder (roundClockStep s) := by
  unfold roundClockStep
  dsimp only
  split
  · next h =>
    obtain ⟨htaken, hnotDue⟩ := takeDueEvents_offsets h.1 hs
    split
    · next hrunning => exact rise_offsets htaken hnotDue hrunning
    · exact htaken
  · exact hs

/-! ## Presses -/

theorem insertClaim_offsets {offset : Nat} (i : SeatNo) (hin : OffsetInRound s offset) :
    OffsetsKept s (insertClaim x i offset s) := by
  refine OffsetsKept.trans ?_ ((lampWrite_offsets i .wait _).trans (rearmCall_offsets _))
  refine ⟨rfl, rfl, rfl, fun c hc => ?_, fun _ _ h => .inl h⟩
  rcases mem_placeClaim.mp hc with rfl | hc
  · exact .inr hin
  · exact .inl ⟨c, hc, rfl⟩

theorem replaceClaim_offsets {offset : Nat} (old : Claim) (i : SeatNo) (hin : OffsetInRound s offset) :
    OffsetsKept s (replaceClaim old i offset s) := by
  unfold replaceClaim
  dsimp only
  generalize hmade : ({ team := old.team, seat := i, offset, called := false, overtaken := s.overtakes offset } : Claim) =
    made
  have hplaced : OffsetsKept s { s with
      ladder := placeClaim s.round.tieStart made (s.ladder.filter (·.team ≠ old.team)) } := by
    refine ⟨rfl, rfl, rfl, fun c hc => ?_, fun _ _ h => .inl h⟩
    rcases mem_placeClaim.mp hc with rfl | hc
    · exact .inr (by rw [← hmade]; exact hin)
    · exact .inl ⟨c, (List.mem_filter.mp hc).1, rfl⟩
  refine OffsetsKept.trans ?_ ((lampWrite_offsets i .wait _).trans (rearmCall_offsets _))
  split
  · exact hplaced
  · exact hplaced.trans (lampWrite_offsets _ _ _)

theorem lockOutTeam_offsets (x : TeamNo) (s : State) : OffsetsKept s (lockOutTeam x s) := by
  unfold lockOutTeam
  dsimp only
  refine OffsetsKept.trans ?_ (lampWrites_offsets _ _)
  split
  · exact ((setTeam_offsets _ _ s).trans (filterLadder_offsets _ _)).trans (rearmCall_offsets _)
  · exact setTeam_offsets _ _ s

theorem ladderPress_offsets (x : TeamNo) (f : SeatFrame) (s : State) : OffsetsKept s (ladderPress x f s) := by
  unfold ladderPress
  dsimp only
  split; · exact .refl s
  split; · exact .refl s
  split; · exact .refl s
  split
  · split
    · exact lockOutTeam_offsets x s
    · exact .refl s
  split; · exact .refl s
  next hround =>
  have hin : OffsetInRound s (f.capture - f.age) := by
    obtain ⟨hclose, hcount⟩ := not_or.mp hround
    exact ⟨Nat.not_lt.mp hclose, fun _ => Nat.not_lt.mp hcount⟩
  split
  · split
    · exact replaceClaim_offsets _ _ hin
    · exact .refl s
  · exact insertClaim_offsets _ hin

theorem storeAnswer_offsets {e : SheetEntry} (i : SeatNo) (hchoice : choiceInRound s e = true)
    (hin : OffsetInRound s e.offset) : OffsetsKept s (storeAnswer i e s) := by
  refine OffsetsKept.trans ?_ (lampWrite_offsets i .answered _)
  refine ⟨rfl, rfl, rfl, fun c hc => .inl ⟨c, hc, rfl⟩, fun j e' he => ?_⟩
  rw [State.setEntry_entry] at he
  split at he
  · cases he; exact .inr ⟨hchoice, hin⟩
  · exact .inl he

theorem sheetPress_offsets {choices : Nat} {key : Option Nat} {f : SeatFrame} (hkind : s.kind = some (.poll choices key))
    (hlow : 1 ≤ f.key) : OffsetsKept s (sheetPress choices f s) := by
  unfold sheetPress
  split; · exact .refl s
  split; · exact .refl s
  next hchoices =>
  split; · exact .refl s
  split
  · split
    · exact ((setSeat_offsets _ _ s).trans (clearEntry_offsets _ _)).trans (lampWrite_offsets _ _ _)
    · exact .refl s
  split; · exact .refl s
  next hround =>
  have hin : OffsetInRound s (answerOffset f) := by
    obtain ⟨hclose, hcount⟩ := not_or.mp hround
    exact ⟨Nat.not_lt.mp hclose, fun _ => Nat.not_lt.mp hcount⟩
  have hchoice : choiceInRound s (answerEntry f) = true := by
    unfold choiceInRound
    rw [hkind]
    simpa [answerEntry, hlow] using hchoices
  split
  · exact storeAnswer_offsets _ hchoice hin
  · split
    · exact storeAnswer_offsets _ hchoice hin
    · exact .refl s

theorem handPress_offsets (f : SeatFrame) (s : State) : OffsetsKept s (handPress f s) := by
  unfold handPress
  split
  · split
    · split
      · split
        · split
          · exact ladderPress_offsets _ f s
          · exact .refl s
        · next hkind =>
          split
          · next hkey => exact sheetPress_offsets hkind hkey.1
          · exact .refl s
        · exact .refl s
      · exact .refl s
    · exact .refl s
  · exact .refl s

/-! ## Claims and seats that go -/

theorem dropClaim_offsets (c : Claim) (hs : OffsetsInOrder s) : OffsetsInOrder (dropClaim c s) := by
  rw [dropClaim_eq]
  refine ladderGoesOn_offsets (OffsetsKept.inOrder ?_ hs)
  unfold droppedClaim
  split
  · exact ((removeCalled_offsets c s).trans (lampWrite_offsets _ _ _)).trans (setNotice_offsets _ _)
  · exact (filterLadder_offsets _ s).trans (lampWrite_offsets _ _ _)

theorem dropTeamClaim_offsets (x : TeamNo) (hs : OffsetsInOrder s) : OffsetsInOrder (dropTeamClaim x s) := by
  unfold dropTeamClaim
  split
  · exact dropClaim_offsets _ hs
  · exact hs

theorem unbindSeat_offsets (i : SeatNo) (hs : OffsetsInOrder s) : OffsetsInOrder (unbindSeat i s) := by
  have hdropped : OffsetsInOrder (dropSeatClaim i s) := by
    unfold dropSeatClaim
    split
    · exact dropClaim_offsets _ hs
    · exact hs
  unfold unbindSeat
  dsimp only
  split
  · exact hs
  · exact ((((clearEntry_offsets i _).trans (setSeat_offsets _ _ _)).trans (lampWrite_offsets _ _ _)).trans
      (setSeat_offsets _ _ _)).inOrder hdropped

theorem unbindMembers_offsets (x : TeamNo) (hs : OffsetsInOrder s) : OffsetsInOrder (unbindMembers x s) := by
  unfold unbindMembers
  generalize s.members x = l
  induction l generalizing s with
  | nil => exact hs
  | cons i l ih => exact ih (unbindSeat_offsets i hs)

/-! ## Rounds that open, and their key -/

theorem clampWindow_bounds (w : Nat) : 100 ≤ clampWindow w ∧ clampWindow w ≤ 1000000 := by
  unfold clampWindow clampNat
  split
  · omega
  · split <;> omega

theorem openRound_offsets {kind : RoundKind} (hkind : kind.WellFormed) (w : Nat) (s : State) :
    OffsetsInOrder (openRound kind (clampWindow w) s) := by
  refine OffsetsInOrder.of_part ?_ (contestPart_of_boards (openRound_spec s kind (clampWindow w)))
  obtain ⟨hlow, hhigh⟩ := clampWindow_bounds w
  refine ⟨⟨?_, ?_, fun _ => ⟨rfl, rfl, Nat.zero_le _⟩⟩, fun c hc => absurd hc List.not_mem_nil, fun i e he => ?_⟩
  · rintro body ⟨⟩
    exact ⟨hlow, hhigh, Nat.le_refl _⟩
  · cases kind with
    | buzz => rfl
    | poll choices key =>
      obtain ⟨hmin, hmax, hkeys⟩ := hkind
      cases key with
      | none => simp [State.kind, hmin, hmax]
      | some k => simpa [State.kind, hmin, hmax] using hkeys k rfl
  · simp [State.entry] at he

theorem storeKey_offsets {key choices : Nat} (hs : OffsetsInOrder s) (hkind : s.kind = some (.poll choices none))
    (hlow : 1 ≤ key) (hhigh : key ≤ choices) : OffsetsInOrder (storeKey key s) := by
  obtain ⟨hw, hc, -⟩ := storeKey_body key s
  have hk : (storeKey key s).kind = some (.poll choices (some key)) := by
    obtain ⟨body, hbody, hpoll⟩ := Option.map_eq_some_iff.mp hkind
    simp [storeKey, State.kind, hbody, hpoll]
  obtain ⟨⟨hbody, hrange, hopen⟩, hclaims, hentries⟩ := hs
  have hoffset (offset : Nat) (h : OffsetInRound s offset) : OffsetInRound (storeKey key s) offset := by
    unfold OffsetInRound
    rw [hc]
    exact h
  refine ⟨⟨?_, ?_, ?_⟩, fun c hc => hoffset _ (hclaims c hc), fun i e he => ?_⟩
  · intro body hb
    simp only [storeKey, Option.mem_def, Option.map_eq_some_iff] at hb
    obtain ⟨old, hold, rfl⟩ := hb
    exact hbody old hold
  · rw [hkind] at hrange
    rw [hk]
    simpa [hlow, hhigh] using hrange
  · rw [hc, hw]; exact hopen
  · obtain ⟨hchoice, hin⟩ := hentries i e he
    refine ⟨?_, hoffset _ hin⟩
    unfold choiceInRound at hchoice ⊢
    rw [hkind] at hchoice
    rw [hk]
    exact hchoice

theorem offsets_of_initial (hround : t.round = Round.initial) (hladder : t.ladder = [])
    (hentry : ∀ i, t.entry i = none) : OffsetsInOrder t := by
  refine ⟨⟨?_, ?_, ?_⟩, ?_, fun i e he => ?_⟩
  · rw [hround]; rintro body ⟨⟩
  · rw [State.kind, hround]; rfl
  · rw [hround]; rintro ⟨⟩
  · rw [hladder]; exact fun c hc => absurd hc List.not_mem_nil
  · rw [hentry] at he; cases he

/-! ## Every event -/

theorem offsetsInOrder_of_service (h : Service s t) (hs : OffsetsInOrder s) : OffsetsInOrder t := by
  cases h with
  | unchanged => exact hs
  | clearNotices | storeRules | recallTeam | purgeTeam => exact hs
  | resetSession =>
    refine OffsetsInOrder.ended (OffsetsInOrder.of_part ?_ (contestPart_of_boards (resetSession_spec s))) s
    exact offsets_of_initial rfl rfl fun i => by simp [State.entry]
  | enrolTeam => exact ((setTeam_offsets _ _ s).trans (updateStandings_offsets _)).inOrder hs
  | renameTeam =>
    unfold renameTeam; dsimp only; split
    · exact ((setTeam_offsets _ _ s).trans (updateStandings_offsets _)).inOrder hs
    · exact hs
  | @benchTeam x =>
    have hbenched : OffsetsInOrder (setTeamState x .benched s) := hs
    exact (dropTeamClaim_offsets x hbenched).ended s
  | @retireTeam x =>
    have hunbound := unbindMembers_offsets x (dropTeamClaim_offsets x hs)
    exact (((setTeam_offsets _ _ _).trans (updateStandings_offsets _)).inOrder hunbound).ended s
  | changeScore =>
    unfold changeScore
    exact (writeScore_offsets _ _ s).inOrder hs
  | @bindSeat i x => exact OffsetsInOrder.ended ((setSeat_offsets _ _ _).inOrder (unbindSeat_offsets i hs)) s
  | unbindSeat i => exact (unbindSeat_offsets i hs).ended s
  | openRound window _ hkind => exact (openRound_offsets hkind window s).ended s
  | closeRound hopened => exact enterSettling_offsets hs hopened (.inr rfl)
  | abandonRound => exact (closeRound_offsets _ hs).ended s
  | storeKey _ hkind hlow hhigh => exact storeKey_offsets hs hkind hlow hhigh
  | scoreKey _ hkind hlow hhigh =>
    exact OffsetsInOrder.ended
      (closeRound_offsets _ ((scorePoll_offsets _ _).inOrder (storeKey_offsets hs hkind hlow hhigh))) s
  | @judge d _ v hcalled =>
    refine OffsetsInOrder.ended ?_ s
    cases v with
    | right => exact judgeRight_offsets d hs
    | wrong => exact judgeWrong_offsets d hs
    | pass => exact judgePass_offsets d hs
  | setConfig => exact hs.of_part (contestPart_of_ruleWrites (writeRule_outside _ _ s))
  | setMessage b text => exact hs.of_part (contestPart_of_boards (storeMessage_frame b text s))
  | setRule r v =>
    exact hs.of_part ((endEvent_contestPart s _).trans (contestPart_of_ruleWrites (writeRule_outside r _ s)))

theorem offsetsInOrder_of_event (h : Event s t) (hs : OffsetsInOrder s) : OffsetsInOrder t := by
  cases h with
  | port h =>
    have e := congrArg State.contestPart h
    exact hs.of_part e
  | powerOn => unfold powerOn; split <;> exact hs
  | powerLoss =>
    unfold powerLoss; split
    · exact hs
    · exact hs.of_part (toRest_contestPart _ s)
  | resetPinLow =>
    unfold resetPinLow; split
    · exact hs
    · exact hs.of_part (toRest_contestPart _ s)
  | startUp =>
    unfold startUp; split
    · exact offsets_of_initial rfl rfl fun i => by simp [State.entry, State.powerOnValues]
    · exact hs
  | startUpEnd => exact hs.of_part (startUpEnd_contestPart s)
  | revealPinChange => exact hs
  | revealLevelTaken => exact hs.of_part (revealLevelTaken_contestPart s)
  | storeComplete => exact hs.of_part (storeComplete_contestPart s)
  | recallFinished => exact hs.of_part (finishRecall_contestPart s)
  | watchdogExpiry =>
    unfold watchdogExpiry
    split
    · split
      · dsimp only
        split
        · refine OffsetsInOrder.ended (OffsetsInOrder.of_part ?_ (contestPart_of_boards (resolveBoards_frame _))) s
          rw [abandonRound_eq]
          split
          · exact closeRound_offsets _ hs
          · exact hs
        · exact hs
      · exact hs
    · exact hs
    · exact hs
  | startEdge n b => exact hs.of_part (contestPart_of_lines (startEdge_frame s n b))
  | gapLimit n => exact hs.of_part (gapLimit_contestPart n s)
  | characterEnd n c => exact hs.of_part (characterEnd_contestPart n c s)
  | seatTableTake n =>
    unfold seatTableTake
    split
    · exact hs
    · next f _ _ =>
      split
      · refine OffsetsInOrder.ended (((updatePresence_offsets f _).trans (handPress_offsets f _)).inOrder ?_) s
        exact hs
      · exact hs
  | housekeepingExpiry =>
    have h := housekeepingExpiry_outside s
    have hround := congrArg State.round h
    have hclock := congrArg State.clock h
    have hladder := congrArg State.ladder h
    have hsheet := congrArg State.sheet h
    exact (OffsetsKept.of_records hround hclock hladder hsheet).inOrder hs
  | downstreamFrameEnd n => exact hs.of_part (contestPart_of_lines (downstreamFrameEnd_frame s n))
  | roundClockStep => exact roundClockStep_offsets hs
  | windowEnd => exact windowEnd_offsets hs
  | settlingEnd => exact settlingEnd_offsets hs
  | callEvent => exact callEvent_offsets hs
  | judgeDeadlineEvent => exact judgeDeadlineEvent_offsets hs
  | transferEnd b => exact hs.of_part (contestPart_of_boards (transferEnd_frame s b))
  | requestTaken => exact hs.of_part (requestTaken_contestPart s)
  | service h => exact offsetsInOrder_of_service h hs

/-- Settles O13: each operation of the contest leaves the records and the ladder in order, and every offset in the round. -/
theorem contestStaysInOrder : Obligations.ContestStaysInOrder :=
  ⟨keptByStep_of_events (fun _ _ h => h) fun _ _ => contestInOrder_of_event,
    keptByStep_of_events (fun _ _ h => h) fun _ _ => offsetsInOrder_of_event⟩

end Sys2Proof.Machine
end

section
/-! PROOFS. The console port stays within its bounds: requests wait only while none can be taken, answers are no longer
than 67 bytes, and a recall has the port to itself. -/

namespace Sys2Proof.Machine

variable {s t u : State}

/-! ## The length of an answer (R181, R193) -/

theorem ite_data_length {P : Prop} [Decidable P] {x y : Served} {k : Nat} (hx : x.2.data.length ≤ k)
    (hy : y.2.data.length ≤ k) : (if P then x else y).2.data.length ≤ k := by
  split
  · exact hx
  · exact hy

theorem rollData_length (n : LineNo) (s : State) : (rollData n s).length = 64 := by
  simp [rollData, rollEntry, seatsOfLine, List.length_flatMap, Function.comp_def]

theorem sheetData_length (n : LineNo) (s : State) : (sheetData n s).length = 64 := by
  have hentry (e : Option SheetEntry) : (sheetEntryData e).length = 2 := by cases e <;> rfl
  simp [sheetData, hentry, seatsOfLine, List.length_flatMap, Function.comp_def]

theorem teamData_length (x : TeamNo) (s : State) : (teamData x s).length = 20 := by
  simp [teamData, padRight_length, le24Int, le24, le16Int]

theorem roundData_length (s : State) : (roundData s).length = 23 := by
  unfold roundData
  split <;> split <;> rfl

/-- At most eight claims of seven bytes (R121). -/
theorem ladderData_length (start : Nat) (s : State) : (ladderData start s).length ≤ 57 := by
  have hclaim (c : Claim × Nat) : (claimData c.2 c.1).length = 7 := rfl
  have htaken := List.length_take_le 8 (s.ladder.drop (start - 1))
  have hdata : (ladderData start s).length = ((s.ladder.drop (start - 1)).take 8).length * 7 + 1 := by
    simp [ladderData, List.length_flatMap, hclaim]
  omega

/-- At most seven places of eight bytes (R157). -/
theorem standingsData_length (first : Nat) {count : Nat} (hcount : count ≤ 7) (s : State) :
    (standingsData first count s).length ≤ 57 := by
  have hplace (x : TeamNo) : (standingData s x).length = 8 := rfl
  have htaken := List.length_take_le count (s.standings.drop (first - 1))
  have hdata : (standingsData first count s).length = ((s.standings.drop (first - 1)).take count).length * 8 + 1 := by
    simp [standingsData, List.length_flatMap, hplace]
  omega

theorem openIfIdle_length (kind : RoundKind) (w : Nat) (acted : Bool) (s : State) :
    (openIfIdle kind w acted s).2.data.length ≤ 64 :=
  ite_data_length (Nat.zero_le _) (Nat.zero_le _)

theorem serveOpenRound_length (kind : Byte) (w : BitVec 24) (choices key : Byte) (s : State) :
    (serveOpenRound kind w choices key s).2.data.length ≤ 64 :=
  ite_data_length (openIfIdle_length _ _ _ s)
    (ite_data_length (ite_data_length (Nat.zero_le _) (openIfIdle_length _ _ _ s)) (Nat.zero_le _))

theorem servePostKey_length (choice : Byte) (s : State) : (servePostKey choice s).2.data.length ≤ 64 := by
  refine ite_data_length (Nat.zero_le _) ?_
  split <;> exact Nat.zero_le _

theorem serveBindSeat_length (seat team : Byte) (s : State) : (serveBindSeat seat team s).2.data.length ≤ 64 := by
  unfold serveBindSeat
  split
  · exact ite_data_length (Nat.zero_le _) (ite_data_length (Nat.zero_le _) (ite_data_length (Nat.zero_le _) (Nat.zero_le _)))
  · exact Nat.zero_le _

theorem serveJudge_length (verdict seat : Byte) (s : State) : (serveJudge verdict seat s).2.data.length ≤ 64 := by
  unfold serveJudge
  split
  · split
    · exact ite_data_length (Nat.zero_le _) (Nat.zero_le _)
    · exact Nat.zero_le _
  · exact Nat.zero_le _

theorem serveSetRule_length (id : Byte) (value : BitVec 24) (s : State) :
    (serveSetRule id value s).2.data.length ≤ 64 := by
  have hbytes (v : Nat) : (le24Nat v).length ≤ 64 := by simp [le24Nat, le24]
  unfold serveSetRule
  split
  · exact Nat.zero_le _
  · exact ite_data_length (Nat.zero_le _) (ite_data_length (Nat.zero_le _) (hbytes _))

theorem serve_length (lost : Bool) (r : Request) (s : State) {reply : Reply} (h : (serve lost r s).2 = some reply) :
    reply.data.length ≤ 64 := by
  have hbare (x : State) (status : Status) : (x, status.bare).2.data.length ≤ 64 := Nat.zero_le _
  cases r with
  | recallRules =>
    unfold serve at h
    dsimp only at h
    split at h
    · cases h; exact Nat.zero_le _
    · cases h
  | keepalive | clearNotices | resetSession | readNotices => cases h; exact Nat.le_of_ble_eq_true rfl
  | enrolTeam | renameTeam | benchTeam | recallTeam | retireTeam | purgeTeam | unbindSeat =>
    cases h
    simp only [serveEnrolTeam, serveRenameTeam, serveBenchTeam, serveRecallTeam, serveRetireTeam, servePurgeTeam,
      serveUnbindSeat]
    split
    · exact hbare _ _
    · exact ite_data_length (hbare _ _) (hbare _ _)
  | adjustScore | setScore =>
    cases h
    simp only [serveAdjustScore, serveSetScore]
    split
    · exact hbare _ _
    · exact ite_data_length (hbare _ _) (Nat.le_of_ble_eq_true rfl)
  | readTeam =>
    cases h
    unfold serveReadTeam
    split
    · exact hbare _ _
    · exact (teamData_length _ s).trans_le (by decide)
  | readSeat | readLine | readBoard | readRule =>
    cases h
    simp only [serveReadSeat, serveReadLine, serveReadBoard, serveReadRule]
    split
    · exact hbare _ _
    · exact Nat.le_of_ble_eq_true rfl
  | readRoll =>
    cases h
    unfold serveReadRoll
    split
    · exact hbare _ _
    · exact (rollData_length _ s).le
  | readSheet =>
    cases h
    unfold serveReadSheet
    split
    · exact hbare _ _
    · exact (sheetData_length _ s).le
  | setMessage =>
    cases h
    unfold serveSetMessage
    split <;> exact hbare _ _
  | setBoard =>
    cases h
    unfold serveSetBoard
    split <;> exact hbare _ _
  | bindSeat seat team => cases h; exact serveBindSeat_length seat team s
  | openRound kind w choices key => cases h; exact serveOpenRound_length kind w choices key s
  | closeRound => cases h; exact ite_data_length (Nat.le_of_ble_eq_true rfl) (hbare _ _)
  | abandonRound => cases h; exact ite_data_length (hbare _ _) (hbare _ _)
  | postKey choice => cases h; exact servePostKey_length choice s
  | judge verdict seat => cases h; exact serveJudge_length verdict seat s
  | readRound => cases h; exact (roundData_length s).trans_le (by decide)
  | readLadder start => cases h; exact ite_data_length (hbare _ _) ((ladderData_length _ s).trans (by decide))
  | readStandings first count =>
    cases h
    unfold serveReadStandings
    split
    · exact hbare _ _
    · next hrange => exact (standingsData_length _ (by omega) s).trans (by decide)
  | setRule id value => cases h; exact serveSetRule_length id value s
  | storeRules => cases h; exact ite_data_length (hbare _ _) (ite_data_length (hbare _ _) (hbare _ _))

/-- Header, data and check byte. -/
theorem answerBytes_length (address : BitVec 7) (flagged : Bool) {reply : Reply} (h : reply.data.length ≤ 64) :
    (answerBytes address flagged reply).length ≤ 67 := by
  cases flagged <;> simp [answerBytes] <;> omega

/-- At most two header bytes, forty of argument and the check byte are stored (R176). -/
theorem storedSlot_length {bytes : List Byte} {slot : RequestSlot} (h : storedSlot bytes = some slot) :
    slot.bytes.length ≤ 43 := by
  unfold storedSlot at h
  split at h
  · cases h
  · cases h; exact Nat.le_of_ble_eq_true rfl
  · next h0 h1 rest =>
    cases h
    have hflag : flag h0.msb ≤ 1 := by cases h0.msb <;> decide
    have hcount : storedCount (h0 :: h1 :: rest) ≤ 43 := by
      simp only [storedCount]
      split
      · decide
      · omega
    exact (List.length_take_le _ _).trans hcount

/-! ## What reaches the port's slots -/

/-- The slots of the port, and the recall that may hold it. -/
def State.slots (s : State) : List RequestSlot × Option Bool × List (List Byte) × Bool :=
  (s.requests, s.inProcess, s.answers, s.recalling)

section
variable {s t : State}

theorem State.slots_of_contest (h : t.outsideContest = s.outsideContest) : t.slots = s.slots := by
  have e := congrArg State.slots h; exact e
theorem State.slots_of_boards (h : t.outsideBoards = s.outsideBoards) : t.slots = s.slots := by
  have e := congrArg State.slots h; exact e
theorem State.slots_of_scores (h : t.outsideScores = s.outsideScores) : t.slots = s.slots := by
  have e := congrArg State.slots h; exact e
theorem State.slots_of_lines (h : t.outsideLines = s.outsideLines) : t.slots = s.slots := by
  have e := congrArg State.slots h; exact e
theorem State.slots_of_rules (h : t.outsideRuleWrites = s.outsideRuleWrites) : t.slots = s.slots := by
  have e := congrArg State.slots h; exact e

end

theorem endEvent_slots (before : State) : (endEvent before s).slots = s.slots :=
  State.slots_of_lines (endEvent_frame before s)

/-- The owning block of a request leaves the port's slots to the port. -/
theorem slots_of_service (h : Service s t) : t.slots = s.slots := by
  cases h with
  | unchanged | clearNotices | recallTeam | purgeTeam | closeRound | storeKey | storeRules => rfl
  | resetSession => exact (endEvent_slots s).trans ((State.slots_of_boards (resetSession_spec s)).trans rfl)
  | enrolTeam => exact (State.slots_of_scores (updateStandings_frame _)).trans rfl
  | renameTeam =>
    unfold renameTeam; dsimp only; split
    · exact (State.slots_of_scores (updateStandings_frame _)).trans rfl
    · rfl
  | benchTeam => exact (endEvent_slots s).trans (State.slots_of_contest (benchTeam_frame s _))
  | retireTeam => exact (endEvent_slots s).trans (State.slots_of_contest (retireTeam_frame s _))
  | changeScore => exact State.slots_of_scores (writeScore_frame s _ _)
  | bindSeat => exact (endEvent_slots s).trans (State.slots_of_contest (bindSeat_frame s _ _))
  | unbindSeat i => exact (endEvent_slots s).trans (State.slots_of_contest (unbindSeat_frame s i))
  | openRound => exact (endEvent_slots s).trans (State.slots_of_contest (openRound_frame s _ _))
  | abandonRound => exact (endEvent_slots s).trans (State.slots_of_contest (closeRound_frame s _))
  | @scoreKey key =>
    refine (endEvent_slots s).trans ((State.slots_of_contest (closeRound_frame _ _)).trans ?_)
    exact (State.slots_of_scores (scorePoll_frame (storeKey key s) key)).trans rfl
  | judge v => exact (endEvent_slots s).trans (State.slots_of_contest (applyVerdict_writes v _ s).keeps.outside)
  | setConfig => exact State.slots_of_rules (writeRule_outside _ _ s)
  | setMessage b text => exact State.slots_of_boards (storeMessage_frame b text s)
  | setRule r => exact (endEvent_slots s).trans (State.slots_of_rules (writeRule_outside r _ s))

/-! ## The port -/

/-- The bounds of the port's slots, at an instant at which it may be able to take a request. -/
structure SlotsBounded (s : State) : Prop where
  requests : s.requests.length ≤ 2
  answers : s.answerSlotsUsed ≤ 2
  request : ∀ slot ∈ s.requests, slot.bytes.length ≤ 43
  answer : ∀ a ∈ s.answers, a.length ≤ 67
  process : s.inProcess.isSome ↔ s.recalling = true
  alone : s.recalling = true → s.storing = none ∧ s.roundActive = false

theorem PortBounded.slots (h : PortBounded s) : SlotsBounded s := by
  obtain ⟨hrequests, hanswers, hrequest, hanswer, -, hprocess, hrecall⟩ := h
  exact ⟨hrequests, hanswers, hrequest, hanswer, hprocess, hrecall⟩

theorem SlotsBounded.portBounded (h : SlotsBounded s)
    (hwait : s.requests ≠ [] → s.inProcess.isSome ∨ s.answers.length = 2) : PortBounded s :=
  ⟨h.requests, h.answers, h.request, h.answer, hwait, h.process, h.alone⟩

/-- What the answering of a request leaves at the port. -/
structure PortAnswered (s t : State) : Prop where
  requests : t.requests = s.requests
  answers : ∃ a, t.answers = s.answers ++ [a] ∧ a.length ≤ 67
  process : t.inProcess = none
  recalling : t.recalling = s.recalling

/-- What a recall leaves at the port as it begins (R203). -/
structure RecallRuns (s t : State) : Prop where
  requests : t.requests = s.requests
  answers : t.answers = s.answers
  process : t.inProcess.isSome
  recalling : t.recalling = true
  storing : t.storing = none
  inactive : t.roundActive = false

theorem placeAnswer_answered (flagged : Bool) {reply : Reply} (h : reply.data.length ≤ 64) (hslots : t.slots = s.slots) :
    PortAnswered s (placeAnswer flagged reply t) where
  requests := congrArg (·.1) hslots
  answers := ⟨answerBytes t.targetAddress flagged reply,
    congrArg (fun x : List RequestSlot × Option Bool × List (List Byte) × Bool => x.2.2.1 ++ [answerBytes t.targetAddress flagged reply]) hslots, answerBytes_length _ _ h⟩
  process := rfl
  recalling := congrArg (·.2.2.2) hslots

theorem requestTaken_slots (s : State) : (requestTaken s).slots = s.slots :=
  (State.slots_of_boards (requestTaken_frame s)).trans rfl

theorem takeValid_taken (flagged : Bool) {r : Request} (hw : r.wf = true) (s : State) :
    PortAnswered s (takeValid flagged r s) ∨ RecallRuns s (takeValid flagged r s) := by
  have hheard := requestTaken_slots s
  by_cases hr : r = .recallRules
  · subst hr
    obtain ⟨reply, h⟩ | ⟨h, hstoring, hidle⟩ := serve_recallRules s.consoleLost (requestTaken s)
    · rw [takeValid_of_reply h]
      exact .inl (placeAnswer_answered flagged (serve_length s.consoleLost .recallRules (requestTaken s) (by rw [h])) hheard)
    · rw [takeValid_of_recall h]
      exact .inr ⟨congrArg (·.1) hheard, congrArg (·.2.2.1) hheard, rfl, rfl, hstoring, hidle⟩
  · have hserved := slots_of_service (serve_service s.consoleLost hw hr (requestTaken s))
    obtain ⟨reply, h⟩ : ∃ reply, (serve s.consoleLost r (requestTaken s)).2 = some reply := by
      cases r
      case recallRules => exact absurd rfl hr
      all_goals exact ⟨_, rfl⟩
    rw [takeValid_of_reply (Prod.ext rfl h)]
    exact .inl (placeAnswer_answered flagged (serve_length _ _ _ h) (hserved.trans hheard))

theorem handleRequest_taken (slot : RequestSlot) (s : State) :
    PortAnswered s (handleRequest slot s) ∨ RecallRuns s (handleRequest slot s) := by
  unfold handleRequest
  split
  · exact .inl (placeAnswer_answered _ (Nat.zero_le 64) rfl)
  · next h => exact takeValid_taken _ (wf_of_judgeFraming h) s

theorem PortAnswered.slotsBounded (h : PortAnswered s t) (hrequests : s.requests.length ≤ 2)
    (hrequest : ∀ slot ∈ s.requests, slot.bytes.length ≤ 43) (hanswers : s.answers.length ≤ 1)
    (hanswer : ∀ a ∈ s.answers, a.length ≤ 67) (hidle : s.recalling = false) : SlotsBounded t := by
  obtain ⟨hkept, ⟨a, hplaced, ha⟩, hdone, hrecalling⟩ := h
  have hrecalling : t.recalling = false := hrecalling.trans hidle
  refine ⟨hkept ▸ hrequests, ?_, hkept ▸ hrequest, fun b hb => ?_, by simp [hdone, hrecalling], by simp [hrecalling]⟩
  · simpa [State.answerSlotsUsed, hdone, hplaced] using hanswers
  · rw [hplaced] at hb
    rcases List.mem_append.mp hb with hb | hb
    · exact hanswer b hb
    · rw [List.mem_singleton.mp hb]; exact ha

theorem SlotsBounded.answers_le (h : SlotsBounded s) : s.answers.length ≤ 2 :=
  (Nat.le_add_right _ _).trans h.answers

/-- The port takes one request at most at an event, so none is left waiting at a free port unless two waited with both
answer slots free. -/
theorem takeRequest_portBounded (h : SlotsBounded s)
    (hwait : s.requests.length ≤ 1 ∨ s.inProcess.isSome ∨ s.answers ≠ []) : PortBounded (takeRequest s) := by
  have hle := h.answers_le
  by_cases hbusy : s.inProcess.isSome ∨ 2 ≤ s.answers.length
  · rw [takeRequest_of_busy hbusy]
    exact h.portBounded fun _ => hbusy.imp_right hle.antisymm
  · obtain ⟨hprocess, hfree⟩ := not_or.mp hbusy
    have hidle : s.recalling = false := by simpa [h.process] using hprocess
    cases hrequests : s.requests with
    | nil => rw [takeRequest_of_empty hrequests]; exact h.portBounded fun e => absurd hrequests e
    | cons slot rest =>
      rw [takeRequest_of_ready hrequests (Option.not_isSome_iff_eq_none.mp hprocess) (by omega)]
      have htaken := handleRequest_taken slot { s with requests := rest }
      generalize handleRequest slot { s with requests := rest } = t at htaken ⊢
      have hshort : rest.length ≤ 2 := by have := h.requests; rw [hrequests, List.length_cons] at this; omega
      have hkept : ∀ slot ∈ rest, slot.bytes.length ≤ 43 := fun slot hslot =>
        h.request slot (by rw [hrequests]; exact List.mem_cons_of_mem _ hslot)
      obtain hanswered | ⟨hrest, hanswers, hrun, hrecalling, hstoring, hinactive⟩ := htaken
      · refine (hanswered.slotsBounded hshort hkept (by dsimp only; omega) h.answer hidle).portBounded fun hne => .inr ?_
        obtain ⟨hrest, ⟨a, hanswers, -⟩, -, -⟩ := hanswered
        have hrest : t.requests = rest := hrest
        have hone : s.answers ≠ [] := by
          rw [hrequests, List.length_cons] at hwait
          rcases hwait with hlast | hw | hw
          · exact absurd (hrest.trans (List.eq_nil_of_length_eq_zero (by omega))) hne
          · exact absurd hw hprocess
          · exact hw
        have := List.length_pos_iff.mpr hone
        rw [hanswers, List.length_append, List.length_singleton]
        dsimp only
        omega
      · have hrest : t.requests = rest := hrest
        have hanswers : t.answers = s.answers := hanswers
        refine ⟨hrest ▸ hshort, ?_, hrest ▸ hkept, hanswers ▸ h.answer, fun _ => .inl hrun, by simp [hrun, hrecalling],
          fun _ => ⟨hstoring, hinactive⟩⟩
        simp only [State.answerSlotsUsed, hanswers, hrun, if_true]
        omega

theorem consoleWrite_portBounded (address : BitVec 7) (bytes : List Byte) (hs : PortBounded s) :
    PortBounded (consoleWrite address bytes s) := by
  have h := hs.slots
  obtain ⟨-, -, -, -, hwait, -, -⟩ := hs
  unfold consoleWrite
  split
  · next hack =>
    dsimp only
    have hfree : s.requests.length < 2 := by
      simp only [State.acksWrite, decide_eq_true_eq] at hack
      exact hack.2.2
    split
    · exact h.portBounded hwait
    · next slot hslot =>
      refine takeRequest_portBounded ⟨?_, h.answers, ?_, h.answer, h.process, h.alone⟩ ?_
      · simp; omega
      · intro other hother
        rcases List.mem_append.mp hother with hother | hother
        · exact h.request other hother
        · rw [List.mem_singleton.mp hother]; exact storedSlot_length hslot
      · by_cases hempty : s.requests = []
        · exact .inl (by simp [hempty])
        · refine .inr ((hwait hempty).imp_right fun hfull e => ?_)
          have e : s.answers = [] := e
          rw [e] at hfull; cases hfull
  · exact h.portBounded hwait

theorem consoleRead_portBounded (address : BitVec 7) (acks : List Bool) (hs : PortBounded s) :
    PortBounded (consoleRead address acks s) := by
  have h := hs.slots
  obtain ⟨-, -, -, -, hwait, -, -⟩ := hs
  unfold consoleRead
  split
  · split
    · exact h.portBounded hwait
    · next answer rest hanswers =>
      dsimp only
      split
      · have hused := h.answers
        simp only [State.answerSlotsUsed, hanswers, List.length_cons] at hused
        refine takeRequest_portBounded ⟨h.requests, ?_, h.request, fun a ha => h.answer a ?_, h.process, h.alone⟩ ?_
        · change rest.length + (if s.inProcess.isSome then 1 else 0) ≤ 2; omega
        · rw [hanswers]; exact List.mem_cons_of_mem _ ha
        · by_cases hempty : s.requests = []
          · exact .inl (by simp [hempty])
          · refine .inr ((hwait hempty).imp_right fun hfull e => ?_)
            have e : rest = [] := e
            rw [hanswers, e] at hfull; cases hfull
      · exact h.portBounded hwait
  · exact h.portBounded hwait

theorem finishRecall_slots (s : State) : (finishRecall s).1.slots = s.slots := by
  unfold finishRecall
  split
  · exact (endEvent_slots s).trans (State.slots_of_rules (recallWrites_outside s.store s))
  · rfl

theorem recallComplete_portBounded (hs : PortBounded s) : PortBounded (recallComplete s) := by
  have h := hs.slots
  unfold recallComplete
  split
  · next flagged hprocess =>
    split
    · have hanswered := placeAnswer_answered flagged (reply := (finishRecall { s with recalling := false }).2.bare)
        (Nat.zero_le 64) (finishRecall_slots { s with recalling := false })
      have hused := h.answers
      simp only [State.answerSlotsUsed, hprocess, Option.isSome_some, if_true] at hused
      refine takeRequest_portBounded (hanswered.slotsBounded h.requests h.request (by dsimp only; omega) h.answer rfl)
        (.inr (.inr ?_))
      obtain ⟨-, ⟨a, hanswers, -⟩, -, -⟩ := hanswered
      rw [hanswers]
      exact List.append_ne_nil_of_right_ne_nil _ (List.cons_ne_nil _ _)
    · exact hs
  · exact hs

/-! ## The other events -/

/-- What an event away from the port leaves of it. -/
structure PortKept (s t : State) : Prop where
  slots : t.slots = s.slots
  storing : t.storing = s.storing ∨ t.storing = none
  active : t.roundActive = true → s.roundActive = true

theorem PortKept.refl (s : State) : PortKept s s := ⟨rfl, .inl rfl, id⟩

theorem PortKept.trans (h : PortKept s t) (k : PortKept t u) : PortKept s u :=
  ⟨k.slots.trans h.slots, k.storing.elim (fun e => e ▸ h.storing) .inr, fun e => h.active (k.active e)⟩

theorem PortKept.portBounded (h : PortKept s t) (hs : PortBounded s) : PortBounded t := by
  obtain ⟨hslots, hstoring, hactive⟩ := h
  have hrequests : t.requests = s.requests := congrArg (·.1) hslots
  have hprocess : t.inProcess = s.inProcess := congrArg (·.2.1) hslots
  have hanswers : t.answers = s.answers := congrArg (·.2.2.1) hslots
  have hrecalling : t.recalling = s.recalling := congrArg (·.2.2.2) hslots
  unfold PortBounded State.answerSlotsUsed
  rw [hrequests, hprocess, hanswers, hrecalling]
  obtain ⟨h1, h2, h3, h4, h5, h6, halone⟩ := hs
  refine ⟨h1, h2, h3, h4, h5, h6, fun hrun => ⟨?_, ?_⟩⟩
  · rcases hstoring with e | e
    · exact e.trans (halone hrun).1
    · exact e
  · exact Bool.eq_false_iff.mpr fun e => by rw [hactive e] at halone; exact absurd (halone hrun).2 (by decide)

theorem ContestKeeps.portKept (h : ContestKeeps s t) : PortKept s t where
  slots := State.slots_of_contest h.outside
  storing := .inl (by have e := congrArg State.storing h.outside; exact e)
  active := h.active

theorem ContestWrites.portKept (h : ContestWrites s t) : PortKept s t := h.keeps.portKept

theorem PortKept.ended (h : PortKept s t) (before : State) : PortKept s (endEvent before t) :=
  h.trans (endEvent_keeps before t).portKept

/-- An event that reaches neither the round nor the port. -/
theorem PortKept.of_frame (hslots : t.slots = s.slots) (hstoring : t.storing = s.storing) (hround : t.round = s.round) :
    PortKept s t :=
  ⟨hslots, .inl hstoring, by rw [State.roundActive, State.roundActive, hround]; exact id⟩

theorem PortKept.of_boards (h : t.outsideBoards = s.outsideBoards) : PortKept s t :=
  .of_frame (State.slots_of_boards h) (by have e := congrArg State.storing h; exact e) (State.round_of_boards h)

theorem PortKept.of_lines (h : t.outsideLines = s.outsideLines) : PortKept s t :=
  .of_frame (State.slots_of_lines h) (by have e := congrArg State.storing h; exact e)
    (by have e := congrArg State.round h; exact e)

theorem PortKept.of_reception (h : t.outsideReception = s.outsideReception) : PortKept s t :=
  .of_frame (by have e := congrArg State.slots h; exact e) (by have e := congrArg State.storing h; exact e)
    (by have e := congrArg State.round h; exact e)

theorem PortKept.of_presence (h : t.outsidePresence = s.outsidePresence) : PortKept s t :=
  .of_frame (by have e := congrArg State.slots h; exact e) (by have e := congrArg State.storing h; exact e)
    (by have e := congrArg State.round h; exact e)

theorem windowEnd_portKept (s : State) : PortKept s (windowEnd s) := by
  unfold windowEnd
  split
  · next h => exact (enterSettling_writes h.2.2).portKept
  · exact .refl s

theorem settlingEnd_portKept (s : State) : PortKept s (settlingEnd s) := by
  unfold settlingEnd
  split
  · next h =>
    have hsettled : ContestWrites s (settle { s with clock := { s.clock with settlingEnd := none } }) :=
      (ContestWrite.clock _ s).chain.trans (settle_writes h.2.2)
    exact hsettled.portKept.ended s
  · exact .refl s

theorem callEvent_portKept (s : State) : PortKept s (callEvent s) := by
  unfold callEvent
  split
  · exact (callHead_writes s).portKept.ended s
  · exact .refl s

theorem judgeDeadlineEvent_portKept (s : State) : PortKept s (judgeDeadlineEvent s) := by
  unfold judgeDeadlineEvent
  split
  · split
    · next d _ =>
      have hjudged : ContestWrites s (timeOut d { s with clock := { s.clock with judgeDeadline := none } }) :=
        (ContestWrite.clock _ s).chain.trans (timeOut_writes d _)
      exact hjudged.portKept.ended s
    · exact (ContestWrite.clock _ s).chain.portKept
  · exact .refl s

theorem controllerEvent_portKept (s : State) : PortKept s (controllerEvent s) := by
  unfold controllerEvent
  split
  · exact windowEnd_portKept s
  · exact settlingEnd_portKept s

theorem ladderEvent_portKept (s : State) : PortKept s (ladderEvent s) := by
  unfold ladderEvent
  split
  · exact callEvent_portKept s
  · exact judgeDeadlineEvent_portKept s

theorem takeDueEvents_portKept (s : State) : PortKept s (takeDueEvents s) := by
  have hcounted : PortKept s { s with freeIndex := s.freeIndex + 1 } := ⟨rfl, .inl rfl, id⟩
  unfold takeDueEvents
  dsimp only
  split
  · split
    · exact (hcounted.trans (ladderEvent_portKept _)).trans (controllerEvent_portKept _)
    · exact (hcounted.trans (controllerEvent_portKept _)).trans (ladderEvent_portKept _)
  · exact (controllerEvent_portKept s).trans (ladderEvent_portKept _)

theorem roundClockStep_portKept (s : State) : PortKept s (roundClockStep s) := by
  unfold roundClockStep
  dsimp only
  split
  · split
    · exact (takeDueEvents_portKept s).trans (ContestWrite.clock _ _).chain.portKept
    · exact takeDueEvents_portKept s
  · exact .refl s

theorem clockSaturation_portKept (s : State) : PortKept s (clockSaturation s) := by
  unfold clockSaturation
  split
  · exact roundClockStep_portKept s
  · exact .refl s

theorem watchdogExpiry_portKept (s : State) : PortKept s (watchdogExpiry s) := by
  unfold watchdogExpiry
  split
  · split
    · have hexpired (lost : Bool) : PortKept s ({ s with watchdog := .expired, consoleLost := lost }.setNotice .consoleLost) :=
        ⟨rfl, .inl rfl, id⟩
      dsimp only
      split
      · refine PortKept.ended (.trans ?_ (.of_boards (resolveBoards_frame _))) s
        rw [abandonRound_eq]
        split
        · exact (hexpired true).trans (ContestWrite.close .abandoned _).chain.portKept
        · exact hexpired true
      · exact hexpired s.consoleLost
    · exact .refl s
  · exact .refl s
  · exact .refl s

theorem seatTableTake_portKept (n : LineNo) (s : State) : PortKept s (seatTableTake n s) := by
  unfold seatTableTake
  split
  · exact .refl s
  · next f _ _ =>
    split
    · have htaken : PortKept s (s.setLine n ((s.line n).take (s.rule Rule.holdLower))) := ⟨rfl, .inl rfl, id⟩
      have hheard := htaken.trans (.of_presence (updatePresence_outside f _))
      exact (hheard.trans (handPress_writes f _).portKept).ended s
    · exact .refl s

theorem seatFrame_portKept (n : LineNo) (char : Byte) (s : State) :
    PortKept s (if completesFrame n char s then characterEnd n char s else s) := by
  split
  · exact .of_reception (characterEnd_frame s n char)
  · exact .refl s

theorem storeComplete_portKept (s : State) : PortKept s (storeComplete s) := by
  unfold storeComplete
  split
  · exact ⟨rfl, .inr rfl, id⟩
  · exact .refl s

theorem revealLevelTaken_portKept (s : State) : PortKept s (revealLevelTaken s) :=
  .trans (t := { s with reveal := (revealLevelTaken s).reveal }) ⟨rfl, .inl rfl, id⟩ (.of_boards (revealLevelTaken_frame s))

theorem startUpEnd_portKept (s : State) : PortKept s (startUpEnd s) :=
  .of_frame ((State.slots_of_rules (startUpEnd_outside s)).trans rfl)
    (by have e := congrArg State.storing (startUpEnd_outside s); exact e)
    (by have e := congrArg State.round (startUpEnd_outside s); exact e)

/-- A device at rest has an empty port (R174). -/
theorem toRest_portBounded (phase : Phase) (s : State) : PortBounded (toRest phase s) := by
  simp [PortBounded, State.answerSlotsUsed, toRest]

theorem startUp_portBounded (addr1 addr0 : Bool) (hs : PortBounded s) : PortBounded (startUp addr1 addr0 s) := by
  unfold startUp
  split
  · simp [PortBounded, State.answerSlotsUsed, State.powerOnValues]
  · exact hs

theorem exec_portBounded {i : Instr} (h : exec i s = .next t) (hs : PortBounded s) : PortBounded t := by
  cases hi : i.request? with
  | some row =>
    rw [exec_of_request hi s] at h
    cases h
    exact consoleWrite_portBounded _ _ hs
  | none =>
    cases i with
    | powerOn =>
      cases h; unfold powerOn; split
      · exact hs
      · exact hs
    | powerLoss =>
      cases h; unfold powerLoss; split
      · exact hs
      · exact toRest_portBounded _ s
    | resetPinLow =>
      cases h; unfold resetPinLow; split
      · exact hs
      · exact toRest_portBounded _ s
    | startUp => cases h; exact startUp_portBounded _ _ hs
    | startUpEnd => cases h; exact (startUpEnd_portKept s).portBounded hs
    | consoleWrite => cases h; exact consoleWrite_portBounded _ _ hs
    | consoleRead => cases h; exact consoleRead_portBounded _ _ hs
    | requestFramingRefusal => cases h; exact consoleWrite_portBounded _ _ hs
    | storeComplete => cases h; exact (storeComplete_portKept s).portBounded hs
    | recallComplete => cases h; exact recallComplete_portBounded hs
    | watchdogExpiry => cases h; exact (watchdogExpiry_portKept s).portBounded hs
    | revealPinChange => cases h; exact hs
    | revealLevelTaken => cases h; exact (revealLevelTaken_portKept s).portBounded hs
    | startEdge n b => cases h; exact (PortKept.of_lines (startEdge_frame s _ _)).portBounded hs
    | gapLimit => cases h; exact (PortKept.of_reception (gapLimit_frame s _)).portBounded hs
    | characterReceived => cases h; exact (PortKept.of_reception (characterEnd_frame s _ _)).portBounded hs
    | seatFrame => cases h; exact (seatFrame_portKept _ _ s).portBounded hs
    | seatTableTake => cases h; exact (seatTableTake_portKept _ s).portBounded hs
    | housekeepingExpiry => cases h; exact (PortKept.of_presence (housekeepingExpiry_outside s)).portBounded hs
    | downstreamFrameEnd => cases h; exact (PortKept.of_lines (downstreamFrameEnd_frame s _)).portBounded hs
    | roundClockStep => cases h; exact (roundClockStep_portKept s).portBounded hs
    | clockSaturation => cases h; exact (clockSaturation_portKept s).portBounded hs
    | windowEnd => cases h; exact (windowEnd_portKept s).portBounded hs
    | settlingEnd => cases h; exact (settlingEnd_portKept s).portBounded hs
    | call => cases h; exact (callEvent_portKept s).portBounded hs
    | judgeDeadline => cases h; exact (judgeDeadlineEvent_portKept s).portBounded hs
    | transferEnd => cases h; exact (PortKept.of_boards (transferEnd_frame s _)).portBounded hs
    | _ => cases hi

/-- Settles O6: the port's own events keep its bounds, and no other event reaches its slots while it is in use. -/
theorem portStaysBounded : Obligations.PortStaysBounded := by
  intro s t hs hstep
  unfold step at hstep
  split at hstep
  · cases hstep; exact hs
  · next i rest _ => exact exec_portBounded (s := { s with pending := rest }) hstep hs

end Sys2Proof.Machine
end

section
/-! PROOFS. Refusals by the owning block (R179, R180), and the requests that write one team's record. -/

namespace Sys2Proof.Machine

variable {c : Bool} {s : State}

/-! ## The contest as the owning block finds it -/

section
variable (c : Bool) (r : Request) (s : State)

@[simp] theorem received_ladder : (received c r s).ladder = s.ladder := by
  have e := congrArg State.ladder (received_frame c r s); exact e
@[simp] theorem received_clock : (received c r s).clock = s.clock := by
  have e := congrArg State.clock (received_frame c r s); exact e
@[simp] theorem received_sheet : (received c r s).sheet = s.sheet := by
  have e := congrArg State.sheet (received_frame c r s); exact e
@[simp] theorem received_kind : (received c r s).kind = s.kind := by
  have e := congrArg State.kind (received_frame c r s); exact e
@[simp] theorem received_copy : (received c r s).copy = s.copy := by
  have e := congrArg State.copy (received_frame c r s); exact e
@[simp] theorem received_roundActive : (received c r s).roundActive = s.roundActive := by
  have e := congrArg State.roundActive (received_frame c r s); exact e
@[simp] theorem received_lineEnabled (n : LineNo) : (received c r s).lineEnabled n = s.lineEnabled n := by
  have e := congrArg (State.lineEnabled · n) (received_frame c r s); exact e
@[simp] theorem received_claimOf (x : TeamNo) : (received c r s).claimOf x = s.claimOf x := by
  rw [State.claimOf, State.claimOf, received_ladder]
@[simp] theorem received_calledClaim : (received c r s).calledClaim = s.calledClaim := by
  rw [State.calledClaim, State.calledClaim, received_ladder]
@[simp] theorem received_keyRange : keyRange (received c r s) = keyRange s := by
  have e := congrArg keyRange (received_frame c r s); exact e
@[simp] theorem received_answers : (received c r s).answers = s.answers := by
  have e := congrArg State.answers (received_frame c r s); exact e
@[simp] theorem received_targetAddress : (received c r s).targetAddress = s.targetAddress := by
  have e := congrArg State.targetAddress (received_frame c r s); exact e
@[simp] theorem received_rules : (received c r s).rules = s.rules := by
  have e := congrArg State.rules (received_frame c r s); exact e

end

theorem received_transmittersBusy (r : Request) (h : TransmittersBusy s) : TransmittersBusy (received c r s) :=
  fun n => by rw [received_line]; exact h n

/-- A reply whose owning block leaves no request in process. -/
theorem exec_of_served {i : Instr} {r : Request} {status : Status} {data : List Byte} {t : State}
    (hi : i.request? = some (c, r)) (hw : r.wf = true) (hs : PortReady c s)
    (hserve : serve s.consoleLost r (received c r s) = (t, some { status, data })) (ht : t.inProcess = s.inProcess) :
    exec i s = .next (answered c status data t) :=
  have ⟨_, _, hprocess, _⟩ := hs
  exec_of_reply (reply := { status, data }) hi hw hs hserve (ht.trans hprocess)

/-- A refusal by the owning block changes nothing but what the taking changes (R180). -/
theorem exec_of_refusal {i : Instr} {r : Request} {status : Status} (hi : i.request? = some (c, r)) (hw : r.wf = true)
    (hs : PortReady c s)
    (hserve : serve s.consoleLost r (received c r s) = (received c r s, some status.bare)) :
    ∀ q, i.request? = some (c, q) → exec i s = .next (answered c status [] (received c q s)) := by
  intro q hq
  rw [hi] at hq
  cases hq
  exact exec_of_served hi hw hs hserve (received_inProcess _ _ _)

/-! ## Arguments outside their ranges (R191) -/

section
variable {x y : Byte}

theorem teamArg_of_large (h : 16 ≤ x.toNat) : teamArg x = none := dif_neg (Nat.not_lt.mpr h)
theorem seatArg_of_large (h : 128 ≤ x.toNat) : seatArg x = none := dif_neg (Nat.not_lt.mpr h)
theorem lineArg_of_large (h : 4 ≤ x.toNat) : lineArg x = none := dif_neg (Nat.not_lt.mpr h)
theorem boardArg_of_large (h : 2 ≤ x.toNat) : boardArg x = none := dif_neg (Nat.not_lt.mpr h)
theorem ruleArg_of_large (h : 26 ≤ x.toNat) : ruleArg x = none := dif_neg (Nat.not_lt.mpr h)
theorem sourceArg_of_large (h : 4 ≤ x.toNat) : sourceArg x = none := if_neg (Nat.not_lt.mpr h)

/-- A byte above a small one is not that byte. -/
theorem ne_of_toNat_lt (h : y.toNat < x.toNat) : x ≠ y := fun e => Nat.lt_irrefl _ (e ▸ h)

theorem flagArg_of_large (h : 2 ≤ x.toNat) : flagArg x = none := by
  have hzero : x ≠ 0#8 := ne_of_toNat_lt (Nat.lt_of_lt_of_le (by decide) h)
  have hone : x ≠ 1#8 := ne_of_toNat_lt (Nat.lt_of_lt_of_le (by decide) h)
  rw [flagArg, if_neg hzero, if_neg hone]

theorem verdictArg_of_large (h : 2 < x.toNat) : verdictArg x = none := by
  have hzero : x ≠ 0#8 := ne_of_toNat_lt (Nat.lt_trans (by decide) h)
  have hone : x ≠ 1#8 := ne_of_toNat_lt (Nat.lt_trans (by decide) h)
  have htwo : x ≠ 2#8 := ne_of_toNat_lt h
  rw [verdictArg, if_neg hzero, if_neg hone, if_neg htwo]

theorem verdictArg_of_small (h : x.toNat ≤ 2) : ∃ v, verdictArg x = some v := by
  have hcases : x = 0#8 ∨ x = 1#8 ∨ x = 2#8 := by
    have hx : x.toNat = 0 ∨ x.toNat = 1 ∨ x.toNat = 2 := by omega
    exact hx.imp (BitVec.eq_of_toNat_eq ·) (.imp (BitVec.eq_of_toNat_eq ·) (BitVec.eq_of_toNat_eq ·))
  rcases hcases with rfl | rfl | rfl <;> exact ⟨_, rfl⟩

/-- A configuration is admitted only with all five of its settings (R160). -/
theorem configArg_of_none {source select console hold blank : Byte}
    (h : sourceArg source = none ∨ flagArg select = none ∨ flagArg console = none ∨ flagArg hold = none ∨
      flagArg blank = none) : configArg source select console hold blank = none := by
  unfold configArg
  split
  · next h1 h2 h3 h4 h5 => simp [h1, h2, h3, h4, h5] at h
  · rfl

end

theorem serveSetBoard_of_none {board source select console hold blank : Byte} (s : State)
    (h : boardArg board = none ∨ configArg source select console hold blank = none) :
    serveSetBoard board source select console hold blank s = (s, Status.badArgument.bare) := by
  unfold serveSetBoard
  split
  · next hb hc => simp [hb, hc] at h
  · rfl

theorem serveBindSeat_of_none {seat team : Byte} (s : State) (h : seatArg seat = none ∨ teamArg team = none) :
    serveBindSeat seat team s = (s, Status.badArgument.bare) := by
  unfold serveBindSeat
  split
  · next hi hx => simp [hi, hx] at h
  · rfl

theorem serveJudge_of_none {verdict seat : Byte} (s : State) (h : verdictArg verdict = none ∨ seatArg seat = none) :
    serveJudge verdict seat s = (s, Status.badArgument.bare) := by
  unfold serveJudge
  split
  · next hv hi => simp [hv, hi] at h
  · rfl

/-- POST KEY admits no more than 6 choices where the round record is in its ranges (R75, R89). -/
theorem keyRange_le (h : RoundBodyInRange s) : keyRange s ≤ 6 := by
  obtain ⟨-, hkind, -⟩ := h
  unfold keyRange
  split
  · next choices key hsome _ =>
    rw [hsome] at hkind
    simp only [Bool.and_eq_true, decide_eq_true_eq] at hkind
    exact hkind.1.2
  · exact Nat.le_refl 6

theorem servePostKey_of_range {choice : Byte} (h : choice = 0#8 ∨ keyRange s < choice.toNat) :
    servePostKey choice s = (s, Status.badArgument.bare) := if_pos h

/-- Settles O24: each argument form refuses what is outside its range, before the block looks at anything else. -/
theorem badArgumentsAreRefused : Obligations.BadArgumentsAreRefused := by
  intro c x y v label s hs hlabel refused
  have refuse {i : Instr} {r : Request} (hi : i.request? = some (c, r)) (hw : r.wf = true)
      (hserve : ∀ u, keyRange u = keyRange s →
        serve s.consoleLost r u = (u, some Status.badArgument.bare)) : refused i :=
    exec_of_refusal hi hw hs (hserve _ (received_keyRange c r s))
  have htext : decide (label.length ≤ 8) = true := decide_eq_true hlabel
  have hmessage : decide (label.length ≤ 32) = true := decide_eq_true (hlabel.trans (by decide))
  refine ⟨fun hx => ?team, fun hx => ?seat, fun hx => ?line, fun hx => ?verdict, fun hx => ?kind, fun hx => ?board,
    fun hx => ?source, fun hx => ?key, fun hx => ?rule, fun hx => ?first, fun hx => ?count, fun hx => ?zero,
    fun hx hrange => ?six, fun choices key hkind hactive hx => ?poll⟩
  case team =>
    have hnone := teamArg_of_large hx
    refine ⟨refuse rfl htext ?_, refuse rfl htext ?_, refuse rfl rfl ?_, refuse rfl rfl ?_, refuse rfl rfl ?_,
      refuse rfl rfl ?_, refuse rfl rfl ?_, refuse rfl rfl ?_, refuse rfl rfl ?_, refuse rfl rfl fun u _ => ?bind⟩
    case bind => simp only [serve, serveBindSeat_of_none u (.inr hnone)]
    all_goals
      intro u _
      simp only [serve, serveEnrolTeam, serveRenameTeam, serveBenchTeam, serveRecallTeam, serveRetireTeam,
        servePurgeTeam, serveReadTeam, serveAdjustScore, serveSetScore, hnone]
  case seat =>
    have hnone := seatArg_of_large hx
    refine ⟨refuse rfl rfl fun u _ => ?bind, refuse rfl rfl fun u _ => ?_, refuse rfl rfl fun u _ => ?_,
      refuse rfl rfl fun u _ => ?judge⟩
    case bind => simp only [serve, serveBindSeat_of_none u (.inl hnone)]
    case judge => simp only [serve, serveJudge_of_none u (.inr hnone)]
    all_goals simp only [serve, serveUnbindSeat, serveReadSeat, hnone]
  case line =>
    have hnone := lineArg_of_large hx
    refine ⟨refuse rfl rfl fun u _ => ?_, refuse rfl rfl fun u _ => ?_, refuse rfl rfl fun u _ => ?_⟩ <;>
      simp only [serve, serveReadRoll, serveReadLine, serveReadSheet, hnone]
  case verdict =>
    exact refuse rfl rfl fun u _ => by simp only [serve, serveJudge_of_none u (.inl (verdictArg_of_large hx))]
  case kind =>
    have hone : x ≠ 1#8 := by
      rcases hx with rfl | hx
      · decide
      · exact ne_of_toNat_lt (Nat.lt_trans (by decide) hx)
    have htwo : x ≠ 2#8 := by
      rcases hx with rfl | hx
      · decide
      · exact ne_of_toNat_lt hx
    exact refuse rfl rfl fun u _ => by simp only [serve, serveOpenRound, if_neg hone, if_neg htwo]
  case board =>
    have hnone := boardArg_of_large hx
    have hflag := flagArg_of_large hx
    refine ⟨refuse rfl rfl fun u _ => ?_, refuse rfl hmessage fun u _ => ?_, refuse rfl rfl fun u _ => ?_,
      refuse rfl rfl fun u _ => ?_, refuse rfl rfl fun u _ => ?_, refuse rfl rfl fun u _ => ?_,
      refuse rfl rfl fun u _ => ?_⟩
    · simp only [serve, serveSetBoard_of_none u (.inl hnone)]
    · simp only [serve, serveSetMessage, hnone]
    · simp only [serve, serveReadBoard, hnone]
    · simp only [serve, serveSetBoard_of_none u (.inr (configArg_of_none (.inr (.inl hflag))))]
    · simp only [serve, serveSetBoard_of_none u (.inr (configArg_of_none (.inr (.inr (.inl hflag)))))]
    · simp only [serve, serveSetBoard_of_none u (.inr (configArg_of_none (.inr (.inr (.inr (.inl hflag))))))]
    · simp only [serve, serveSetBoard_of_none u (.inr (configArg_of_none (.inr (.inr (.inr (.inr hflag))))))]
  case source =>
    exact refuse rfl rfl fun u _ => by
      simp only [serve, serveSetBoard_of_none u (.inr (configArg_of_none (.inl (sourceArg_of_large hx))))]
  case key =>
    refine refuse rfl rfl fun u _ => ?_
    have hrefused : serveOpenRound 2#8 v y x u = (u, Status.badArgument.bare) := if_pos hx
    simp only [serve, hrefused]
  case rule =>
    have hnone := ruleArg_of_large hx
    exact ⟨refuse rfl rfl fun u _ => by simp only [serve, serveSetRule, hnone],
      refuse rfl rfl fun u _ => by simp only [serve, serveReadRule, hnone]⟩
  case first =>
    refine ⟨refuse rfl rfl fun u _ => ?_, refuse rfl rfl fun u _ => ?_⟩
    · simp only [serve, serveReadLadder, if_pos hx]
    · simp only [serve, serveReadStandings, if_pos (hx.imp_right Or.inl)]
  case count =>
    exact refuse rfl rfl fun u _ => by simp only [serve, serveReadStandings, if_pos (Or.inr (Or.inr hx))]
  case zero => exact refuse rfl rfl fun u _ => by simp only [serve, servePostKey_of_range (Or.inl hx)]
  case six =>
    have hle := keyRange_le hrange
    exact refuse rfl rfl fun u hu => by simp only [serve, servePostKey_of_range (s := u) (choice := x) (Or.inr (by omega))]
  case poll =>
    have hchoices := keyRange_of_poll hkind hactive
    exact refuse rfl rfl fun u hu => by simp only [serve, servePostKey_of_range (s := u) (choice := x) (Or.inr (by omega))]

/-! ## Records in another state -/

theorem keyRange_of_inactive (h : s.roundActive = false) : keyRange s = 6 := by
  unfold keyRange
  split
  · next hactive => rw [h] at hactive; cases hactive
  · rfl

theorem keyRange_of_buzz (h : s.kind = some .buzz) : keyRange s = 6 := by
  unfold keyRange
  split
  · next hkind _ => rw [h] at hkind; cases hkind
  · rfl

theorem le_keyRange {n k : Nat} {key : Option Nat} (hkind : s.kind = some (.poll n key)) (hk : k ≤ n) (hn : n ≤ 6) :
    k ≤ keyRange s := by
  cases hactive : s.roundActive with
  | false => rw [keyRange_of_inactive hactive]; omega
  | true => rw [keyRange_of_poll hkind hactive]; exact hk

/-- A key in its range is refused without a POLL round that has none (R89). -/
theorem servePostKey_of_state {choice : Byte} (hzero : choice ≠ 0#8) (hrange : choice.toNat ≤ keyRange s)
    (hno : s.roundActive = false ∨ s.kind = some .buzz ∨ ∃ n k, s.kind = some (.poll n (some k))) :
    servePostKey choice s = (s, Status.state.bare) := by
  have hkeyless {n : Nat} (hstate : s.roundActive = true) : s.kind ≠ some (.poll n none) := by
    intro hkind
    rcases hno with h | h | ⟨_, _, h⟩
    · rw [h] at hstate; cases hstate
    · rw [h] at hkind; cases hkind
    · rw [h] at hkind; cases hkind
  unfold servePostKey
  rw [if_neg (not_or.mpr ⟨hzero, Nat.not_lt.mpr hrange⟩)]
  split
  · next hstate hkind => exact absurd hkind (hkeyless (by rw [State.roundActive, hstate]; rfl))
  · next hstate hkind => exact absurd hkind (hkeyless (by rw [State.roundActive, hstate]; rfl))
  · next hstate hkind => exact absurd hkind (hkeyless (by rw [State.roundActive, hstate]; rfl))
  · rfl

/-- A verdict for another seat than the CALLED claim's is stale (R110). -/
theorem serveJudge_of_stale {verdict : Byte} {i : SeatNo} (hverdict : verdict.toNat ≤ 2)
    (h : ∀ d, s.calledClaim = some d → d.seat ≠ i) :
    serveJudge verdict (byte i.val) s = (s, Status.stale.bare) := by
  obtain ⟨v, hv⟩ := verdictArg_of_small hverdict
  unfold serveJudge
  rw [hv, seatArg_byte]
  dsimp only
  split
  · next d hd => rw [if_neg (h d hd)]
  · rfl

theorem openIfIdle_of_active (kind : RoundKind) (w : Nat) (acted : Bool) (h : s.roundActive = true) :
    openIfIdle kind w acted s = (s, Status.roundActive.bare) := if_pos h

/-- Settles O25: each owning block finds the state that refuses, and writes nothing. -/
theorem stateRefusals : Obligations.StateRefusals := by
  refine ⟨fun c t i v label verdict choices key s hs hlabel hverdict => ?records, fun c r v s hs => ?rules⟩
  case records =>
    intro refused tb
    have refuse {status : Status} {i : Instr} {r : Request} (hi : i.request? = some (c, r)) (hw : r.wf = true)
        (hserve : serve s.consoleLost r (received c r s) = (received c r s, some status.bare)) : refused status i :=
      exec_of_refusal hi hw hs hserve
    have htext : decide (label.length ≤ 8) = true := decide_eq_true hlabel
    refine ⟨fun h => ?enrol, fun h => ?free, fun h => ?bench, fun h => ?called, fun h => ?unlisted, fun h => ?purge,
      fun hlisted hother hfull => ?full, fun h => ?close, fun h => ?inactive, fun h => ?active, fun h hkey hsix => ?buzz,
      fun n k h hkey hle hn => ?present, fun h => ?stale⟩
    case enrol => exact refuse rfl htext (by simp [serve, serveEnrolTeam, tb, teamArg_byte, h])
    case free =>
      exact ⟨refuse rfl htext (by simp [serve, serveRenameTeam, tb, teamArg_byte, h]),
        refuse rfl rfl (by simp [serve, serveAdjustScore, tb, teamArg_byte, h]),
        refuse rfl rfl (by simp [serve, serveSetScore, tb, teamArg_byte, h])⟩
    case bench => exact refuse rfl rfl (by simp [serve, serveBenchTeam, tb, teamArg_byte, h])
    case called => exact refuse rfl rfl (by simp [serve, serveRecallTeam, tb, teamArg_byte, h])
    case unlisted =>
      exact ⟨refuse rfl rfl (by simp [serve, serveRetireTeam, tb, teamArg_byte, h]),
        refuse rfl rfl (by simp [serve, serveBindSeat_byte, tb, h])⟩
    case purge => exact refuse rfl rfl (by simp [serve, servePurgeTeam, tb, teamArg_byte, h])
    case full => exact refuse rfl rfl (by simp [serve, serveBindSeat_byte, tb, hlisted, hother, hfull])
    case close => exact refuse rfl rfl (by simp [serve, serveCloseRound, h])
    case inactive =>
      refine ⟨refuse rfl rfl (by simp [serve, serveAbandonRound, h]), refuse rfl rfl ?_⟩
      rw [serve, servePostKey_of_state (by decide) (by rw [received_keyRange, keyRange_of_inactive h]; decide)
        (.inl (by rw [received_roundActive, h]))]
    case active =>
      have hactive (r : Request) : (received c r s).roundActive = true := by rw [received_roundActive, h]
      refine ⟨refuse rfl rfl ?_, fun hkey => refuse rfl rfl ?_⟩
      · simp only [serve, serveOpenRound, if_true, openIfIdle_of_active _ _ _ (hactive _)]
      · have hkey : ¬ clampNat 2 6 choices.toNat < key.toNat := Nat.not_lt.mpr hkey
        have htwo : ¬ (2#8 = 1#8) := by decide
        simp only [serve, serveOpenRound, if_neg htwo, if_true, if_neg hkey, openIfIdle_of_active _ _ _ (hactive _)]
    case buzz =>
      refine refuse rfl rfl ?_
      rw [serve, servePostKey_of_state hkey (by rw [received_keyRange, keyRange_of_buzz h]; exact hsix)
        (.inr (.inl (by rw [received_kind, h])))]
    case present =>
      refine refuse rfl rfl ?_
      rw [serve, servePostKey_of_state hkey (by rw [received_keyRange]; exact le_keyRange h hle hn)
        (.inr (.inr ⟨n, k, by rw [received_kind, h]⟩))]
    case stale =>
      refine refuse rfl rfl ?_
      rw [serve, serveJudge_of_stale hverdict (by rw [received_calledClaim]; exact h)]
  case rules =>
    intro refused
    have refuse {status : Status} {i : Instr} {r : Request} (hi : i.request? = some (c, r)) (hw : r.wf = true)
        (hserve : serve s.consoleLost r (received c r s) = (received c r s, some status.bare)) : refused status i :=
      exec_of_refusal hi hw hs hserve
    refine ⟨fun h => ⟨?busySet, ?busyStore, ?busyRecall⟩, fun hfree hactive => ⟨?store, ?called, fun hlow hhigh => ?set⟩⟩
    case busySet => exact refuse rfl rfl (by simp [serve, serveSetRule, ruleArg_byte, h])
    case busyStore => exact refuse rfl rfl (by simp [serve, serveStoreRules, h])
    case busyRecall => exact refuse rfl rfl (by simp [serve, recallRefusal, h])
    case store => exact refuse rfl rfl (by simp [serve, serveStoreRules, hfree, hactive])
    case called => exact refuse rfl rfl (by simp [serve, recallRefusal, hfree, hactive])
    case set =>
      exact refuse rfl rfl (by simp [serve, serveSetRule, ruleArg_byte, hfree, hactive, heldInRound, hlow, hhigh])

/-! ## Requests that write one team's record (R14, R16, R20) -/

/-- A write of a team's record ends no round and queues nothing (R60). -/
theorem endEvent_setTeam_of_busy (t : TeamNo) (x : Team) (h : TransmittersBusy s) :
    endEvent s (s.setTeam t x) = s.setTeam t x :=
  (endEvent_of_round (t := s.setTeam t x) rfl).trans (kickLines_of_busy (s := s.setTeam t x) h)

/-- Benching a team with no claim writes its record alone (R14). -/
theorem benchTeam_of_no_claim {t : TeamNo} (h : s.claimOf t = none) :
    benchTeam t s = s.setTeam t { s.team t with state := .benched } := by
  have hclaim : (s.setTeam t { s.team t with state := .benched }).claimOf t = none := h
  unfold benchTeam setTeamState dropTeamClaim
  rw [hclaim]

/-- Settles O28: with no claim to drop, and no transmitter waiting to begin, each request writes the record alone. -/
theorem teamStatesChange : Obligations.TeamStatesChange := by
  intro c t s hs tb x
  refine ⟨fun hactive hclaim hbusy => ?bench, ?called, ?purge⟩
  case bench =>
    let u := received c (.benchTeam tb) s
    have hended : endEvent u (benchTeam t u) = u.setTeam t { x with state := .benched } := by
      have hteam : u.team t = x := received_team _ _ _ t
      rw [benchTeam_of_no_claim ((received_claimOf _ _ _ t).trans hclaim),
        endEvent_setTeam_of_busy t _ (received_transmittersBusy _ hbusy), hteam]
    have hserve : serveBenchTeam tb u = (u.setTeam t { x with state := .benched }, Status.done.bare) := by
      rw [← hended]
      have hstate : (u.team t).state = .active := by rw [received_team]; exact hactive
      simp only [serveBenchTeam, tb, teamArg_byte, hstate, if_true]
    exact exec_of_served (t := u.setTeam t { x with state := .benched }) rfl rfl hs
      (by rw [serve, hserve]; rfl) (received_inProcess _ _ _)
  case called =>
    let u := received c (.recallTeam tb) s
    have hserve : serveRecallTeam tb u =
        if x.state = .benched then (u.setTeam t { x with state := .active }, Status.done.bare)
        else (u, Status.state.bare) := by
      simp only [serveRecallTeam, tb, teamArg_byte, u, received_team, recallTeam, setTeamState]; rfl
    dsimp only
    split
    · next h =>
      rw [if_pos h] at hserve
      exact exec_of_served (t := u.setTeam t { x with state := .active }) rfl rfl hs
        (by rw [serve, hserve]; rfl) (received_inProcess _ _ _)
    · next h =>
      rw [if_neg h] at hserve
      exact exec_of_served rfl rfl hs (by rw [serve, hserve]; rfl) (received_inProcess _ _ _)
  case purge =>
    let u := received c (.purgeTeam tb) s
    let purged : Team := { x with state := .free, label := [], score := 0, streak := 0, lastAward := none }
    have hserve : servePurgeTeam tb u =
        if x.state = .retired then (u.setTeam t purged, Status.done.bare) else (u, Status.state.bare) := by
      simp only [servePurgeTeam, tb, teamArg_byte, u, received_team, purgeTeam]; rfl
    dsimp only
    split
    · next h =>
      rw [if_pos h] at hserve
      exact exec_of_served (t := u.setTeam t purged) rfl rfl hs (by rw [serve, hserve]; rfl) (received_inProcess _ _ _)
    · next h =>
      rw [if_neg h] at hserve
      exact exec_of_served rfl rfl hs (by rw [serve, hserve]; rfl) (received_inProcess _ _ _)

end Sys2Proof.Machine
end

section
/-! PROOFS. The events of a seat line as equations (03_seat_lines), and the housekeeping expiry (R27). -/

namespace Sys2Proof.Machine

variable {s : State} {n : LineNo} {l : Line}

/-! ## The record of one line -/

theorem State.setLine_self (s : State) (n : LineNo) : s.setLine n (s.line n) = s := by
  have hlines : s.lines.set n (s.line n) = s.lines := Vector.set_getElem_self _
  exact congrArg (fun lines => { s with lines }) hlines

theorem State.setLine_of_eq (h : l = s.line n) : s.setLine n l = s := by rw [h, State.setLine_self]

theorem State.setLine_setLine (s : State) (n : LineNo) (l m : Line) : (s.setLine n l).setLine n m = s.setLine n m := by
  have hlines : (s.lines.set n l).set n m = s.lines.set n m := Vector.set_set ..
  exact congrArg (fun lines => { s with lines }) hlines

theorem kickLines_setNotice (k : Notice) (s : State) : kickLines (s.setNotice k) = (kickLines s).setNotice k := rfl

/-- One line changes while no resting transmitter has an entry: only its transmitter may begin (R60). -/
theorem kickLines_setLine (h : TransmittersBusy s) (n : LineNo) (l : Line) :
    kickLines (s.setLine n l) = s.setLine n l.kick := by
  have hlines : (Vector.ofFn fun m => ((s.setLine n l).line m).kick) = s.lines.set n l.kick := by
    refine Vector.ext fun k hk => ?_
    have hread := State.setLine_line s n ⟨k, hk⟩ l.kick
    rw [Vector.getElem_ofFn, State.setLine_line]
    refine Eq.trans ?_ hread.symm
    split
    · rfl
    · exact Line.kick_of_busy (h _)
  exact congrArg (fun lines => { s with lines }) hlines

/-! ## Flow entries and transmitters (R53 to R60) -/

/-- A flow entry queued while the transmitter has nothing else to send. -/
theorem Line.queueFlow_kick (h : l.sending = none → l.outboundCount = 0) (f : Flow) :
    (l.queueFlow f).kick = l.flowQueued f := by
  cases hsending : l.sending with
  | some x => simp [Line.kick, Line.queueFlow, Line.flowQueued, hsending]
  | none =>
    obtain ⟨-, hflow⟩ : l.entries = [] ∧ l.flow = none := by
      simpa [Line.outboundCount] using h hsending
    simp [Line.kick, Line.queueFlow, Line.flowQueued, hsending, hflow]

theorem Line.countRehold_kick (h : l.sending = none → l.outboundCount = 0) (every : Nat) :
    (l.countRehold every).kick =
      if every ≤ l.rehold + 1 then ({ l with rehold := 0 } : Line).flowQueued .hold
      else { l with rehold := l.rehold + 1 } := by
  unfold Line.countRehold
  split
  · exact Line.queueFlow_kick (l := { l with rehold := 0 }) h .hold
  · exact Line.kick_of_busy (l := { l with rehold := l.rehold + 1 }) h

theorem Line.overrun_kick (h : l.sending = none → l.outboundCount = 0) (every : Nat) :
    (l.overrun every).kick = if l.held then (l.countRehold every).kick else l := by
  unfold Line.overrun
  split
  · rfl
  · exact Line.kick_of_busy h

theorem Line.join_kick (h : l.sending = none → l.outboundCount = 0) (upper every : Nat) (f : SeatFrame) :
    (l.join upper every f).kick =
      if l.held then (({ l with queue := l.queue ++ [f] } : Line).countRehold every).kick
      else if upper ≤ l.queue.length + 1 then
        ({ l with queue := l.queue ++ [f], held := true, rehold := 0 } : Line).flowQueued .hold
      else { l with queue := l.queue ++ [f] } := by
  have hbusy : ∀ held rehold, ({ l with queue := l.queue ++ [f], held, rehold } : Line).sending = none →
      ({ l with queue := l.queue ++ [f], held, rehold } : Line).outboundCount = 0 := fun _ _ => h
  unfold Line.join
  dsimp only
  rw [List.length_append, List.length_singleton]
  split
  · rfl
  · split
    · exact Line.queueFlow_kick (hbusy true 0) .hold
    · exact Line.kick_of_busy (hbusy l.held l.rehold)

/-! ## Start edges and the gap limit (R42, R45, R48, R50) -/

theorem startEdge_of_hunting (hpowered : s.powered = true) (henabled : s.lineEnabled n = true)
    (hhunting : (s.line n).receiver = .hunting) (falseStart : Bool) :
    startEdge n falseStart s = s.setLine n { s.line n with
      receiver := if falseStart then .hunting else .receiving s.clock.count (!s.clock.running) } :=
  if_pos ⟨hpowered, henabled, hhunting⟩

/-- Settles O40: each row is one branch of `startEdge` or `gapLimit`. -/
theorem receiversHuntAndAssemblersTimeOut : Obligations.ReceiversHuntAndAssemblersTimeOut := by
  refine ⟨fun n s hpowered => ⟨fun henabled hhunting => ⟨?edge, ?falseStart⟩, fun hdeaf b => ?deaf⟩,
    fun n s hpowered henabled => ⟨fun hpartial => ?garble, fun hempty => ?empty⟩⟩
  case edge => exact congrArg Host.Outcome.next (startEdge_of_hunting hpowered henabled hhunting false)
  case falseStart =>
    refine congrArg Host.Outcome.next ((startEdge_of_hunting hpowered henabled hhunting true).trans ?_)
    refine State.setLine_of_eq ?_
    rw [if_pos rfl, ← hhunting]
  case deaf =>
    refine congrArg Host.Outcome.next (if_neg fun ⟨_, henabled, hhunting⟩ => ?_)
    rcases hdeaf with h | h
    · rw [h] at henabled; cases henabled
    · exact h hhunting
  case garble => exact congrArg Host.Outcome.next (if_pos ⟨hpowered, henabled, hpartial⟩)
  case empty =>
    refine congrArg Host.Outcome.next (if_neg fun ⟨_, _, hpartial⟩ => ?_)
    rw [hempty] at hpartial
    cases hpartial

/-! ## Characters (R44, R46, R47) -/

/-- The line whose receiver hunts again, with another partial frame. -/
def Line.assembling (assembler : Option PartialFrame) (l : Line) : Line := { l with receiver := .hunting, assembler }

/-- A character that ends on a working, enabled line is handed to the assembler, and transmitters may begin. -/
theorem characterEnd_of_receiving {clock : Nat} {stopped : Bool} (hpowered : s.powered = true)
    (henabled : s.lineEnabled n = true) (hreceiving : (s.line n).receiver = .receiving clock stopped) (char : Byte) :
    characterEnd n char s =
      kickLines (assemble n char clock stopped (s.setLine n { s.line n with receiver := .hunting })) := by
  have hround : (assemble n char clock stopped (s.setLine n { s.line n with receiver := .hunting })).round = s.round := by
    have e := congrArg State.round
      (assemble_frame (s.setLine n { s.line n with receiver := .hunting }) n char clock stopped)
    exact e
  unfold characterEnd
  rw [hreceiving]
  dsimp only
  rw [if_pos ⟨hpowered, henabled⟩, endEvent_of_round hround]

/-- A lead character begins a partial frame, a pending one discarded as garble. -/
theorem assemble_of_lead {char : Byte} (h : char.msb = true) (clock : Nat) (stopped : Bool) (s : State) :
    assemble n char clock stopped s =
      let begun := s.setLine n { s.line n with assembler := some { characters := [char], capture := clock, stopped } }
      if (s.line n).assembler.isSome then garble n begun else begun := by
  unfold assemble
  dsimp only
  rw [if_pos h]

theorem assemble_of_stray {char : Byte} (h : char.msb = false) (hempty : (s.line n).assembler = none) (clock : Nat)
    (stopped : Bool) : assemble n char clock stopped s = s := by
  unfold assemble
  dsimp only
  rw [if_neg (by simp [h]), hempty]

theorem assemble_of_short {char : Byte} {p : PartialFrame} (h : char.msb = false)
    (hpartial : (s.line n).assembler = some p) (hshort : p.characters.length < 3) (clock : Nat) (stopped : Bool) :
    assemble n char clock stopped s =
      s.setLine n { s.line n with assembler := some { p with characters := p.characters ++ [char] } } := by
  unfold assemble
  dsimp only
  rw [if_neg (by simp [h]), hpartial]
  dsimp only
  split
  · next hfull => rw [hfull] at hshort; exact absurd hshort (Nat.lt_irrefl 3)
  · rfl

theorem assemble_of_fourth {char lead key age : Byte} {capture : Nat} {mark : Bool} (h : char.msb = false)
    (hpartial : (s.line n).assembler = some { characters := [lead, key, age], capture, stopped := mark }) (clock : Nat)
    (stopped : Bool) : assemble n char clock stopped s =
      (judgeFrame (s.rule (Rule.lineSeats n)) n capture mark lead key age char).elim
        (garble n (s.setLine n { s.line n with assembler := none }))
        (placeFrame n · (s.setLine n { s.line n with assembler := none })) := by
  unfold assemble
  dsimp only
  rw [if_neg (by simp [h]), hpartial]
  dsimp only
  cases judgeFrame (s.rule (Rule.lineSeats n)) n capture mark lead key age char <;> rfl

/-- Settles O41: the rows of R44 for a character that completes no frame. -/
theorem charactersBuildFrames : Obligations.CharactersBuildFrames := by
  intro n char clock stopped s hpowered henabled hreceiving become begun
  have hline : (s.setLine n { s.line n with receiver := .hunting }).line n = { s.line n with receiver := .hunting } :=
    State.setLine_line_same _ _ _
  have hend : exec (.characterReceived n char) s =
      .next (kickLines (assemble n char clock stopped (s.setLine n { s.line n with receiver := .hunting }))) :=
    congrArg Host.Outcome.next (characterEnd_of_receiving hpowered henabled hreceiving char)
  refine ⟨fun hlead hempty => ?first, fun hlead hpartial => ?again, fun hdata hempty => ?stray,
    fun p hdata hpartial hshort => ?added⟩
  case first =>
    rw [hend, assemble_of_lead hlead]
    simp only [hline, State.setLine_setLine]
    simp only [hempty, Option.isSome_none, Bool.false_eq_true, if_false]
    rfl
  case again =>
    rw [hend, assemble_of_lead hlead]
    simp only [hline, State.setLine_setLine, hpartial, if_true]
    rfl
  case stray =>
    rw [hend, assemble_of_stray hdata (by rw [hline]; exact hempty)]
    simp only [become, ← hempty]
  case added =>
    rw [hend, assemble_of_short (p := p) hdata (by rw [hline]; exact hpartial) hshort, State.setLine_setLine]
    simp only [hline]
    rfl

/-! ## The fourth character (R46, R51 to R54) -/

/-- The judgement of R46 as one condition on the four characters. -/
theorem judgeFrame_eq (seats : Nat) (n : LineNo) (capture : Nat) (stopped : Bool) (lead key age char : Byte) :
    judgeFrame seats n capture stopped lead key age char =
      if char = crc8 [lead, key, age] &&& 0x7F#8 ∧ lead.toNat / 32 % 4 ≠ 3 ∧ lead.toNat % 32 < seats then
        some { seat := ⟨32 * n.val + lead.toNat % 32, by omega⟩
               kind := if lead.toNat / 32 % 4 = 0 then .checkIn else if lead.toNat / 32 % 4 = 1 then .press else .leave
               key := key.toNat % 16, age := age.toNat % 128, capture, stopped }
      else none := by
  have hkind : lead.toNat / 32 % 4 = 0 ∨ lead.toNat / 32 % 4 = 1 ∨ lead.toNat / 32 % 4 = 2 ∨ lead.toNat / 32 % 4 = 3 := by
    omega
  unfold judgeFrame frameKind crc7
  rcases hkind with h | h | h | h
  · simp [h, frameAddress, seatAt]; rfl
  · simp [h, frameAddress, seatAt]; rfl
  · simp [h, frameAddress, seatAt]; rfl
  · simp [h]

theorem completesFrame_of_three {lead key age char : Byte} {capture : Nat} {mark : Bool}
    (hpartial : (s.line n).assembler = some { characters := [lead, key, age], capture, stopped := mark })
    (hdata : char.msb = false) : completesFrame n char s = true := by
  simp [completesFrame, hpartial, hdata]

/-- Settles O42: both rows end the same fourth character; its judgement decides between garble, a full queue and the
queue with its flow checks. -/
theorem seatFramesAreJudged : Obligations.SeatFramesAreJudged := by
  intro n lead key age char capture clock mark stopped s hpowered hbusy henabled hreceiving hpartial hdata good frame judged
    interval counted joined answer
  have hline : (s.setLine n { s.line n with receiver := .hunting }).line n = { s.line n with receiver := .hunting } :=
    State.setLine_line_same _ _ _
  have hquiet : judged.sending = none → judged.outboundCount = 0 := hbusy n
  have hquietJoined : joined.sending = none → joined.outboundCount = 0 := hbusy n
  have hend : characterEnd n char s =
      kickLines ((judgeFrame (s.rule (Rule.lineSeats n)) n capture mark lead key age char).elim
        (garble n (s.setLine n judged)) (placeFrame n · (s.setLine n judged))) := by
    rw [characterEnd_of_receiving hpowered henabled hreceiving,
      assemble_of_fourth (lead := lead) (key := key) (age := age) (capture := capture) (mark := mark) hdata
        (by rw [hline]; exact hpartial), State.setLine_setLine]
    simp only [hline]
    rfl
  rw [judgeFrame_eq] at hend
  have hjudged : (¬ good → characterEnd n char s = (s.setLine n judged).setNotice (.lineGarble n)) ∧
      (good → (s.line n).queue.length < 16 → characterEnd n char s = s.setLine n
        (if (s.line n).held then counted joined
          else if s.rule Rule.holdUpper ≤ (s.line n).queue.length + 1 then
            ({ joined with held := true, rehold := 0 } : Line).flowQueued .hold
          else joined)) ∧
      (good → 16 ≤ (s.line n).queue.length → characterEnd n char s =
        (s.setLine n (if (s.line n).held then counted judged else judged)).setNotice (.lineOverrun n)) := by
    have hplace : placeFrame n frame (s.setLine n judged) =
        if (s.line n).queue.length < 16 then s.setLine n (judged.join (s.rule Rule.holdUpper) interval frame)
        else (s.setLine n (judged.overrun interval)).setNotice (.lineOverrun n) := by
      unfold placeFrame
      dsimp only
      rw [State.setLine_line_same, State.setLine_setLine, State.setLine_setLine]
      rfl
    refine ⟨fun hbad => ?_, fun hgood hroom => ?_, fun hgood hfull => ?_⟩
    · rw [hend, if_neg hbad]
      exact (kickLines_setNotice _ _).trans
        (congrArg (State.setNotice _) ((kickLines_setLine hbusy n judged).trans (by rw [Line.kick_of_busy hquiet])))
    · rw [hend, if_pos hgood]
      refine (congrArg kickLines (hplace.trans (if_pos hroom))).trans ((kickLines_setLine hbusy n _).trans ?_)
      rw [Line.join_kick hquiet, Line.countRehold_kick hquietJoined]
    · rw [hend, if_pos hgood]
      refine (congrArg kickLines (hplace.trans (if_neg (Nat.not_lt.mpr hfull)))).trans ?_
      refine (kickLines_setNotice _ _).trans (congrArg (State.setNotice _) ((kickLines_setLine hbusy n _).trans ?_))
      rw [Line.overrun_kick hquiet, Line.countRehold_kick hquiet]
  obtain ⟨hbad, hgood, hfull⟩ := hjudged
  have hanswer (i : Instr) (hi : exec i s = .next (characterEnd n char s)) : answer i :=
    ⟨fun h => by rw [hi, hbad h]; rfl, fun h hroom => by rw [hi, hgood h hroom]; rfl,
      fun h hno => by rw [hi, hfull h hno]; rfl⟩
  refine ⟨hanswer _ ?_, hanswer _ rfl⟩
  exact congrArg Host.Outcome.next (if_pos (completesFrame_of_three hpartial hdata))

/-! ## The transmitter (R60) -/

/-- Settles O43: the end of a frame kicks the line, whose next entry is the flow entry, the earliest entry, or none. -/
theorem transmitterTakesTheNextEntry : Obligations.TransmitterTakesTheNextEntry := by
  intro n s hpowered hsending l
  have hend : exec (.downstreamFrameEnd n) s = .next (s.setLine n ({ l with sending := none } : Line).kick) :=
    congrArg Host.Outcome.next (if_pos ⟨hpowered, hsending⟩)
  refine ⟨fun f hflow => ?_, fun m rest hflow hentries => ?_, fun a v rest hflow hentries => ?_, fun hflow hentries => ?_⟩
  · rw [hend]; simp [Line.kick, hflow]
  · rw [hend]; simp [Line.kick, hflow, hentries, OutEntry.frame]
  · rw [hend]; simp [Line.kick, hflow, hentries, OutEntry.frame]
  · rw [hend]; simp [Line.kick, hflow, hentries]

/-! ## The housekeeping expiry (R27, R74) -/

theorem Seat.tick_eq (x : Seat) : x.tick = if x.presence = .present then
    { x with countdown := x.countdown - 1, presence := if x.countdown ≤ 1 then .silent else .present } else x := by
  have hzero : x.countdown - 1 = 0 ↔ x.countdown ≤ 1 := by omega
  unfold Seat.tick
  simp only [hzero]

/-- A seat's presence changes at the expiry exactly when its countdown runs out. -/
theorem Seat.presence_ne_tick (x : Seat) : x.presence ≠ x.tick.presence ↔ x.presence = .present ∧ x.countdown ≤ 1 := by
  rw [Seat.tick_eq]
  split
  · next h =>
    dsimp only
    split
    · next hout => simp [h, hout]
    · next hin => simp [h, hin]
  · next h => simp [h]

/-- Settles O39: every record ticks, and the notice is set when some presence changed. -/
theorem housekeepingCountsDown : Obligations.HousekeepingCountsDown := by
  intro s hpowered silent
  have hsilent : (allSeats.any fun i => decide ((s.seat i).presence ≠ ((s.mapSeats Seat.tick).seat i).presence)) = true ↔
      ∃ i, silent i := by
    simp only [List.any_eq_true, decide_eq_true_eq, State.mapSeats_seat, Seat.presence_ne_tick, silent]
    exact ⟨fun ⟨i, _, h⟩ => ⟨i, h⟩, fun ⟨i, h⟩ => ⟨i, List.mem_finRange i, h⟩⟩
  have hexec : exec .housekeepingExpiry s = .next (if ∃ i, silent i then
      (s.mapSeats Seat.tick).setNotice .seatChange else s.mapSeats Seat.tick) := by
    refine congrArg Host.Outcome.next ((if_pos hpowered).trans ?_)
    simp only [hsilent]
  refine ⟨_, hexec, fun i => ?_, fun h => by rw [if_pos h]; rfl, fun h => by rw [if_neg (not_exists.mpr h)]; rfl, ?_⟩
  · refine Eq.trans ?_ (Seat.tick_eq (s.seat i))
    split
    · exact State.mapSeats_seat s Seat.tick i
    · exact State.mapSeats_seat s Seat.tick i
  · split <;> rfl

end Sys2Proof.Machine
end

section
/-! PROOFS. What a closed round leaves (R66, R93), and the part of the device that the events of a contest leave alone;
ABANDON ROUND, the watchdog, REVEAL, power, RESET# and start-up. -/

namespace Sys2Proof.Machine

variable {s t u w : State} {o : RoundOutcome}

/-! ## The CLOSED mark (R59 to R61) -/

theorem foldEntry_find {same : OutEntry → Bool} {e : OutEntry} (he : same e = true) (entries : List OutEntry) :
    (foldEntry same e entries).find? same = some e := by
  induction entries with
  | nil => simp [foldEntry, he]
  | cons d ds ih =>
    unfold foldEntry
    split
    · simp [he]
    · next hd => simp [hd, ih]

/-- The first mark of a queue is the next mark of a busy transmitter, or of a resting one unless that sends it at once. -/
theorem Line.kick_of_marked {m : Line} (hmarked : m.entries.find? (·.isMark) = some (.mark .closed)) :
    if m.sending.isSome then m.kick.entries.find? (·.isMark) = some (.mark .closed) ∧ m.kick.sending = m.sending
    else m.kick.entries.find? (·.isMark) = some (.mark .closed) ∨ m.kick.sending = some (.mark .closed) := by
  cases hsending : m.sending with
  | some f =>
    have hkick : m.kick = m := by simp [Line.kick, hsending]
    exact (if_pos rfl).mpr ⟨by rw [hkick]; exact hmarked, by rw [hkick, hsending]⟩
  | none =>
    refine (if_neg (by simp)).mpr ?_
    cases hflow : m.flow with
    | some f => exact .inl (by simp only [Line.kick, hsending, hflow]; exact hmarked)
    | none =>
      cases hentries : m.entries with
      | nil => rw [hentries] at hmarked; cases hmarked
      | cons e rest =>
        rw [hentries, List.find?_cons] at hmarked
        simp only [Line.kick, hsending, hflow, hentries]
        split at hmarked
        · cases hmarked; exact .inr rfl
        · exact .inl hmarked

/-- The record of a round that closed, read off the state before the end of the event. -/
theorem RoundClosed.of_ended (hround : t.round = { u.round with state := .closed, outcome := some o })
    (hladder : t.ladder = []) (hclock : t.clock = { Clock.initial with count := u.clock.count })
    (hteams : ∀ x, (t.team x).locked = false) (hseats : ∀ i, (t.seat i).locked = false)
    (hnotice : t.notice .roundClosed = true) (hsending : ∀ n, (t.line n).sending = (u.line n).sending)
    (henabled : ∀ n, t.lineEnabled n = u.lineEnabled n) : RoundClosed u (endEvent u t) o := by
  refine ⟨by rw [endEvent_round, hround], by rw [endEvent_ladder, hladder], by rw [endEvent_clock, hclock],
    fun x => by rw [endEvent_team, hteams], fun i => by rw [endEvent_seat, hseats], ?_, fun hactive n hn => ?_⟩
  · rw [State.notice, endEvent_notices]; exact hnotice
  · have hline : (endEvent u t).line n = ((t.line n).queueMark .closed).kick := by
      rw [endEvent_line, if_pos ⟨hactive, by rw [hround], by rw [henabled, hn]⟩]
    have hkick := Line.kick_of_marked (m := (t.line n).queueMark .closed)
      (foldEntry_find (same := OutEntry.isMark) rfl (t.line n).entries)
    rw [hline, ← hsending]
    exact hkick

/-- A close reads the round, the count and the lines of the state before it. -/
theorem RoundClosed.congr_before (h : RoundClosed u w o) (hround : s.round = u.round) (hcount : s.clock.count = u.clock.count)
    (hline : ∀ n, s.line n = u.line n) (henabled : ∀ n, s.lineEnabled n = u.lineEnabled n) : RoundClosed s w o := by
  unfold RoundClosed State.roundActive at *
  simp only [hround, hcount, hline, henabled]
  exact h

theorem RoundClosed.of_received {c : Bool} {r : Request} (h : RoundClosed (received c r s) w o) : RoundClosed s w o :=
  h.congr_before (received_round c r s).symm (by rw [received_clock]) (fun n => (received_line c r s n).symm)
    fun n => (received_lineEnabled c r s n).symm

theorem State.setNotice_notice (k : Notice) (s : State) : (s.setNotice k).notice k = true := by
  have hbit : k.mask.getLsbD k.bit = true := by
    have hlow := k.mask_lt
    cases k with
    | lineOverrun n | lineGarble n => revert n; decide
    | _ => decide
  simp only [State.notice, State.setNotice, BitVec.getLsbD_or, hbit, Bool.or_true]

theorem closeRound_notice (o : RoundOutcome) (s : State) : (closeRound o s).notice .roundClosed = true := by
  have h := State.setNotice_notice .roundClosed s
  rw [State.notice, closeRound_notices]
  exact h

/-- The event that closes a round: the close, and then what ends the event at the lines. -/
theorem roundClosed_of_close (before : State) (hround : u.round = before.round) (hcount : u.clock.count = before.clock.count)
    (hsending : ∀ n, (u.line n).sending = (before.line n).sending)
    (henabled : ∀ n, u.lineEnabled n = before.lineEnabled n) (o : RoundOutcome) :
    RoundClosed before (endEvent before (closeRound o u)) o :=
  .of_ended (by rw [closeRound_round, hround]) (closeRound_ladder u o) (by rw [closeRound_clock, hcount])
    (fun x => by rw [closeRound_team]) (fun i => by rw [closeRound_seat]) (closeRound_notice o u)
    (fun n => by rw [closeRound_line, hsending]) fun n => by rw [closeRound_lineEnabled, henabled]

/-! ## What the events of a contest leave alone -/

theorem ContestFrame.refl (s : State) : ContestFrame s s :=
  ⟨fun _ => rfl, fun _ => ⟨rfl, rfl⟩, fun _ => rfl, fun _ => ⟨rfl, rfl⟩, rfl⟩

theorem ContestFrame.keeps (h : ContestFrame s u) (k : ContestKeeps u w) : ContestFrame s w := by
  obtain ⟨hlabel, hpresence, hreceiving, hboards, hrest⟩ := h
  refine ⟨fun x => (k.label x).trans (hlabel x),
    fun i => ⟨(k.presence i).trans (hpresence i).1, (k.countdown i).trans (hpresence i).2⟩,
    fun n => (k.receiving n).trans (hreceiving n),
    fun b => ⟨(k.message b).trans (hboards b).1, (k.lastLive b).trans (hboards b).2⟩, ?_⟩
  have e := congrArg (fun x : State => { x with
    teams := s.teams, seats := s.seats, lines := s.lines, clock := s.clock, round := s.round, ladder := s.ladder
    sheet := s.sheet, standings := s.standings, boards := s.boards, notices := s.notices, answers := s.answers
    bus := s.bus, watchdog := s.watchdog, consoleLost := s.consoleLost }) k.outside
  exact Eq.trans e hrest

theorem received_contestFrame (c : Bool) (r : Request) (s : State) : ContestFrame s (received c r s) := by
  refine ⟨fun x => by rw [received_team], fun i => by rw [received_seat]; exact ⟨rfl, rfl⟩,
    fun n => by rw [received_line], received_board_keeps c r s, ?_⟩
  have e := congrArg (fun x : State => { x with
    teams := s.teams, seats := s.seats, lines := s.lines, clock := s.clock, round := s.round, ladder := s.ladder
    sheet := s.sheet, standings := s.standings, boards := s.boards, notices := s.notices, answers := s.answers
    bus := s.bus, watchdog := s.watchdog, consoleLost := s.consoleLost }) (received_frame c r s)
  exact e

theorem ContestFrame.answered (h : ContestFrame s w) (c : Bool) (status : Status) (data : List Byte) :
    ContestFrame s (answered c status data w) := h

/-- The frame of a request's event that ends at the lines. -/
theorem ContestFrame.of_served {c : Bool} {r : Request} (k : ContestKeeps (received c r s) t) (before : State) :
    ContestFrame s (endEvent before t) :=
  ((received_contestFrame c r s).keeps k).keeps (endEvent_keeps before t)

theorem resolveBoards_keeps (s : State) : ContestKeeps s (resolveBoards s) where
  outside := State.outsideContest_of_boards (resolveBoards_frame s)
  label x := by rw [resolveBoards_team]
  state x := by rw [resolveBoards_team]
  presence i := by rw [resolveBoards_seat]
  countdown i := by rw [resolveBoards_seat]
  bound i x h := by rwa [resolveBoards_seat] at h
  receiving n := by rw [resolveBoards_line]
  message b := (resolveBoards_resolved b s).keeps.1
  lastLive b := (resolveBoards_resolved b s).keeps.2
  active h := by rwa [State.roundActive_of_boards (resolveBoards_frame s)] at h

theorem BoardResolved.ended {b : BoardNo} (h : BoardResolved s t b) (before : State) :
    BoardResolved s (endEvent before t) b :=
  (congrArg (BoardResolved s · b) (endEvent_frame before t)).mpr h

/-! ## CLOSE ROUND and ABANDON ROUND (R83, R91) -/

theorem answers_of_contest {c : Bool} {r : Request} (h : t.outsideContest = (received c r s).outsideContest)
    (status : Status) (data : List Byte) : (answered c status data t).answers = (answered c status data s).answers := by
  have e : t.outsideContest = State.outsideContest { s with
      bus := allAcked (r.bytes s.targetAddress c).length, consoleLost := false
      watchdog := s.armedWatchdog s.watchdog } :=
    h.trans (State.outsideContest_of_boards (received_frame c r s))
  have e' := congrArg (fun x => (answered c status data x).answers) e
  exact e'

theorem inProcess_of_contest {c : Bool} {r : Request} (h : t.outsideContest = (received c r s).outsideContest) :
    t.inProcess = s.inProcess := by
  have e := congrArg State.inProcess h
  exact e.trans (received_inProcess c r s)

theorem notices_of_close (o : RoundOutcome) (before s : State) :
    (endEvent before (closeRound o s)).notices = s.notices ||| 1#24 := by
  rw [endEvent_notices, closeRound_notices]; rfl

/-- Settles O48: CLOSE ROUND writes the round and two compares, ABANDON ROUND closes the round unscored. -/
theorem closeAndAbandon : Obligations.CloseAndAbandon := by
  intro c s hs u
  refine ⟨fun body hbody hopened => ?close, fun hother => ?notOpen, fun hactive => ?abandon, fun hidle => ?idle⟩
  case close =>
    have hserve : serveCloseRound u = (enterSettling s.clock.count u, doneWith (le24Nat s.clock.count)) := by
      rw [serveCloseRound, received_clock, if_pos (by rw [received_round]; exact hopened)]
    have hsettling : enterSettling s.clock.count u = { u with
        round := { s.round with state := .settling, body := some { body with closeInstant := s.clock.count } }
        clock := { s.clock with windowEnd := none, settlingEnd := some (s.clock.count + 128) } } := by
      unfold enterSettling
      rw [received_round, received_clock, hbody]; rfl
    rw [← hsettling]
    exact exec_of_served (status := .done) rfl rfl hs (by rw [serve, hserve]; rfl) (received_inProcess c .closeRound s)
  case notOpen =>
    exact exec_of_refusal rfl rfl hs
      (by rw [serve, serveCloseRound, if_neg (by rw [received_round]; exact hother)]) _ rfl
  case abandon =>
    let v := received c .abandonRound s
    have hserve : serveAbandonRound v = (endEvent v (closeRound .abandoned v), Status.done.bare) :=
      if_pos (by rw [received_roundActive]; exact hactive)
    have hframe : (endEvent v (closeRound .abandoned v)).outsideContest = v.outsideContest :=
      (State.outsideContest_of_lines (endEvent_frame _ _)).trans (closeRound_frame v _)
    refine ⟨_, exec_of_served (status := .done) rfl rfl hs (by rw [serve, hserve]; rfl) (inProcess_of_contest hframe),
      (roundClosed_of_close v rfl rfl (fun _ => rfl) (fun _ => rfl) .abandoned).of_received, fun x => ?_, fun i => ?_,
      ?_, ?_, ?_, ContestFrame.of_served (ContestWrite.close .abandoned v).keeps v,
      fun b => (closeRound_resolved v .abandoned b).ended v, answers_of_contest hframe .done []⟩
    · change { (endEvent v (closeRound .abandoned v)).team x with locked := false } = _
      rw [endEvent_team, closeRound_team, received_team]
    · change { (endEvent v (closeRound .abandoned v)).seat i with locked := false } = _
      rw [endEvent_seat, closeRound_seat, received_seat]
    · exact (notices_of_close .abandoned v v).trans (by rw [received_notices])
    · change (endEvent v (closeRound .abandoned v)).sheet = _
      rw [endEvent_sheet, closeRound_sheet, received_sheet]
    · change (endEvent v (closeRound .abandoned v)).standings = _
      rw [endEvent_standings, closeRound_standings, received_standings]
  case idle =>
    exact exec_of_refusal rfl rfl hs
      (by rw [serve, serveAbandonRound, if_neg (by rw [received_roundActive, hidle]; decide)]) _ rfl

/-! ## The watchdog (R92, R189) -/

/-- The state in which an expired watchdog has raised the condition. -/
def State.consoleGone (s : State) : State :=
  ({ s with watchdog := .expired, consoleLost := true } : State).setNotice .consoleLost

theorem watchdogExpiry_of_safe {interval : Nat} (hphase : s.phase = .running) (hrunning : s.watchdog = .running interval)
    (hsafe : s.rule Rule.watchMode = 2) :
    watchdogExpiry s = endEvent s (resolveBoards (abandonRound s.consoleGone)) := by
  unfold watchdogExpiry
  rw [hrunning]
  dsimp only
  rw [if_pos hphase, if_pos hsafe]
  rfl

theorem abandonRound_keeps (s : State) : ContestKeeps s (abandonRound s) := by
  unfold abandonRound
  split
  · exact (ContestWrite.close .abandoned s).keeps
  · exact .refl s

/-- What ABANDON ROUND and the watchdog leave of the records: all but the locks. -/
theorem abandonRound_records (s : State) :
    (∀ x, { (abandonRound s).team x with locked := false } = { s.team x with locked := false }) ∧
      (∀ i, { (abandonRound s).seat i with locked := false } = { s.seat i with locked := false }) ∧
      (abandonRound s).standings = s.standings ∧ (abandonRound s).sheet = s.sheet := by
  unfold abandonRound
  split
  · refine ⟨fun x => ?_, fun i => ?_, closeRound_standings s _, closeRound_sheet s _⟩
    · rw [closeRound_team]
    · rw [closeRound_seat]
  · exact ⟨fun _ => rfl, fun _ => rfl, rfl, rfl⟩

theorem State.notice_or (k : Notice) {word : BitVec 24} (h : s.notice k = true) :
    ({ s with notices := s.notices ||| word } : State).notice k = true := by
  have h : s.notices.getLsbD k.bit = true := h
  simp only [State.notice, BitVec.getLsbD_or, h, Bool.true_or]

theorem abandonRound_consoleLost (s : State) : (abandonRound s.consoleGone).notice .consoleLost = true := by
  have hset : s.consoleGone.notice .consoleLost = true := State.setNotice_notice _ _
  unfold abandonRound
  split
  · rw [State.notice, closeRound_notices]
    exact State.notice_or .consoleLost hset
  · exact hset

/-- Settles O58: outside SAFE the expiry writes two fields; in SAFE it abandons the round and the boards resolve. -/
theorem watchdogExpires : Obligations.WatchdogExpires := by
  intro interval s hphase hrunning
  refine ⟨fun hreport => ?report, fun hsafe => ?safe⟩
  case report =>
    refine congrArg Host.Outcome.next ?_
    unfold watchdogExpiry
    rw [hrunning]
    dsimp only
    rw [if_pos hphase, if_neg hreport]
    rfl
  case safe =>
    let t := resolveBoards (abandonRound s.consoleGone)
    have hboards : t.outsideBoards = (abandonRound s.consoleGone).outsideBoards := resolveBoards_frame _
    have hcontest : t.outsideContest = s.consoleGone.outsideContest :=
      (State.outsideContest_of_boards hboards).trans (abandonRound_frame _)
    have hexec : exec .watchdogExpiry s = .next (endEvent s t) :=
      congrArg Host.Outcome.next (watchdogExpiry_of_safe hphase hrunning hsafe)
    obtain ⟨hteams, hseats, hstandings, hsheet⟩ := abandonRound_records s.consoleGone
    have hbase : ContestFrame s s.consoleGone := .refl s
    have hkeeps : ContestKeeps s.consoleGone (endEvent s t) :=
      ((abandonRound_keeps _).trans (resolveBoards_keeps _)).trans (endEvent_keeps s t)
    have hwhole : (endEvent s t).outsideContest = s.consoleGone.outsideContest := hkeeps.outside
    refine ⟨_, hexec, ?_, ?_, ?_, fun hactive => ?_, fun hidle => ?_, fun b => ?_, fun x => ?_, ?_, fun i => ?_, ?_,
      hbase.keeps hkeeps, ?_⟩
    · have e := congrArg State.watchdog hwhole; exact e
    · have e := congrArg State.consoleLost hwhole; exact e
    · have e := State.notices_of_boards hboards
      rw [State.notice, endEvent_notices, e]
      exact abandonRound_consoleLost s
    · have hclosed : abandonRound s.consoleGone = closeRound .abandoned s.consoleGone := if_pos hactive
      have hround := State.round_of_boards hboards
      have hladder := State.ladder_of_boards hboards
      have hclock := State.clock_of_boards hboards
      have hnotices := State.notices_of_boards hboards
      rw [hclosed] at hround hladder hclock hnotices hboards
      refine RoundClosed.of_ended (by rw [hround, closeRound_round]; rfl) (by rw [hladder, closeRound_ladder])
        (by rw [hclock, closeRound_clock]; rfl) (fun x => ?_) (fun i => ?_) ?_ (fun n => ?_) fun n => ?_
      · rw [State.team_of_boards hboards, closeRound_team]
      · rw [State.seat_of_boards hboards, closeRound_seat]
      · rw [State.notice, hnotices]; exact closeRound_notice _ _
      · rw [State.line_of_boards hboards, closeRound_line]; rfl
      · rw [State.lineEnabled_of_boards hboards, closeRound_lineEnabled]; rfl
    · have hsame : abandonRound s.consoleGone = s.consoleGone := if_neg (by rw [Bool.not_eq_true]; exact hidle)
      rw [endEvent_round, State.round_of_boards hboards, hsame]
      rfl
    · exact ((resolveBoards_resolved b (abandonRound s.consoleGone)).ended s).mode
    · rw [endEvent_team, State.team_of_boards hboards, hteams]; rfl
    · rw [endEvent_standings, State.standings_of_boards hboards, hstandings]; rfl
    · rw [endEvent_seat, State.seat_of_boards hboards, hseats]; rfl
    · rw [endEvent_sheet, State.sheet_of_boards hboards, hsheet]; rfl
    · have e := congrArg State.answers hwhole; exact e

/-! ## REVEAL (R162, R163) -/

/-- Settles O54: the pin is one field, and the level taken lets both boards resolve. -/
theorem revealIsTakenWhenStable : Obligations.RevealIsTakenWhenStable := by
  intro level s
  refine ⟨rfl, fun hphase hdiffers => ?taken, fun hsame => ?stands⟩
  case taken =>
    let v : State := { s with reveal := { s.reveal with taken := s.reveal.pin } }
    have hexec : exec .revealLevelTaken s = .next (resolveBoards v) :=
      congrArg Host.Outcome.next (if_pos ⟨hphase, hdiffers⟩)
    have hframe : (resolveBoards v).outsideBoards = v.outsideBoards := resolveBoards_frame v
    refine ⟨_, hexec, ?_, fun b => (resolveBoards_resolved b v).congr_before rfl, ?_⟩
    · have e := congrArg State.reveal hframe; exact e
    · exact congrArg (fun x : State => { x with boards := s.boards, reveal := s.reveal }) hframe
  case stands => exact congrArg Host.Outcome.next (if_neg fun h => h.2 hsame)

/-! ## Power loss and RESET# (R174, R202 to R204) -/

theorem abandonStore_spec (s : State) : (abandonStore s).storing = none ∧
    (s.storing.isSome → (abandonStore s).store.good = false) ∧ (s.storing = none → (abandonStore s).store = s.store) ∧
    { abandonStore s with store := s.store, storing := s.storing, freeIndex := s.freeIndex } = s := by
  have hflip (x : Byte) : x ^^^ 1#8 ≠ x := fun h => by
    have e := congrArg (BitVec.getLsbD · 0) h
    simp at e
  unfold abandonStore
  split
  · next values hstoring =>
    refine ⟨rfl, fun _ => ?_, fun h => ?_, rfl⟩
    · simp only [RuleStore.good, decide_eq_false_iff_not]
      split
      · next h => rw [h]; exact hflip _
      · next h => exact h
    · rw [hstoring] at h; cases h
  · next hstoring =>
    refine ⟨hstoring, fun h => ?_, fun _ => rfl, rfl⟩
    rw [hstoring] at h; cases h

/-- Settles O59: both events put the device at rest. -/
theorem powerLossAndResetAbandon : Obligations.PowerLossAndResetAbandon := by
  intro s hphase rested
  obtain ⟨hstoring, hbad, hkept, hrest⟩ := abandonStore_spec s
  have hrested (phase : Phase) (hne : phase ≠ .running) : rested (toRest phase s) := by
    refine ⟨rfl, rfl, rfl, rfl, hstoring, hbad, hkept, fun n => ?_, fun b => ?_, ?_, ?_⟩
    · simp [toRest, State.line]
    · have hboards : (abandonStore s).boards = s.boards := by have e := congrArg State.boards hrest; exact e
      simp [toRest, State.board, hboards]
    · have hphase : (toRest phase s).phase = phase := rfl
      simp [State.alertLow, hphase, hne]
    · have e := congrArg (fun x : State => { x with
        phase := s.phase, freeIndex := s.freeIndex, lines := s.lines, boards := s.boards, store := s.store
        storing := s.storing, recalling := s.recalling, requests := s.requests, inProcess := s.inProcess
        answers := s.answers }) hrest
      exact e
  exact ⟨⟨_, congrArg Host.Outcome.next (if_neg hphase), rfl, hrested .off (by decide)⟩,
    ⟨_, congrArg Host.Outcome.next (if_neg hphase), rfl, hrested .rest (by decide)⟩⟩

/-! ## Power-on and start-up (R172, R175, R204) -/

theorem pinAddress_toNat (addr1 addr0 : Bool) :
    (pinAddress addr1 addr0).toNat = 0x5C + (if addr1 then 2 else 0) + (if addr0 then 1 else 0) := by
  cases addr1 <;> cases addr0 <;> rfl

/-- A board that rests enters a mode by starting the mode's image. -/
theorem enteredMode_of_idle {b : BoardNo} (m : BoardMode) (hidle : (s.board b).inFlight = none)
    (hpending : (s.board b).pending = none) : (enteredMode s t b m).mode = m ∧ (enteredMode s t b m).pending = none ∧
      (enteredMode s t b m).inFlight.map (·.kind) = m.image := by
  have hkind (k : ImageKind) : (t.newTransfer b k).kind = k := by cases k <;> rfl
  unfold enteredMode
  rw [if_neg (by rw [hidle]; decide)]
  split
  · next k hk => exact ⟨rfl, hpending, by rw [hk]; exact congrArg some (hkind k)⟩
  · next hk => exact ⟨rfl, hpending, by rw [hk, hidle]; rfl⟩

/-- What the end of start-up leaves but for the lines, the boards and the phase. -/
theorem startUpEnd_rest (h : s.phase = .startUp) :
    { startUpEnd s with phase := s.phase, lines := s.lines, boards := s.boards } = s := by
  have hend : startUpEnd s = kickLines (startBoard 1 (startBoard 0 (startedState s))) := if_pos h
  have hboards : (startBoard 1 (startBoard 0 (startedState s))).outsideBoards = (startedState s).outsideBoards :=
    (enterMode_frame (startBoard 0 (startedState s)) 1 _).trans (enterMode_frame (startedState s) 0 _)
  have e := congrArg (fun x : State => { x with phase := s.phase, lines := s.lines, boards := s.boards }) hboards
  rw [hend]
  exact e

/-- Settles O60: start-up writes every record's power-on value, and its end starts lines and boards. -/
theorem powerOnAndStartUp : Obligations.PowerOnAndStartUp := by
  refine ⟨fun addr1 addr0 s => ⟨fun hoff => ?on, fun hrest => ?start⟩, fun s hphase hlines hboards => ?ended⟩
  case on => exact congrArg Host.Outcome.next (if_pos hoff)
  case start =>
    refine ⟨_, congrArg Host.Outcome.next (if_pos hrest), rfl, fun hgood => ⟨?_, fun r => ?_⟩, fun hbad => ⟨?_, ?_⟩, rfl,
      fun x => ?_, fun i => ?_, rfl, rfl, rfl, fun i => ?_, rfl, fun n => ?_, rfl, rfl, rfl, rfl, rfl,
      pinAddress_toNat addr1 addr0, rfl, rfl, rfl, fun b => ?_, rfl, rfl, rfl⟩
    · exact if_pos hgood
    · have hupper := (loadedRules_getElem s.store Rule.holdUpper).trans (clampRule_of_ne (by decide) _ 0 _)
      simp only [State.rule, State.powerOnValues, if_pos hgood]
      rw [hupper]
      exact loadedRules_getElem s.store r
    · exact if_neg (by rw [hbad]; decide)
    · exact if_neg (by rw [hbad]; decide)
    · simp [State.team, State.powerOnValues]
    · simp [State.seat, State.powerOnValues]
    · simp [State.entry, State.powerOnValues]
    · simp [State.line, State.powerOnValues]
    · simp [State.board, State.powerOnValues]
  case ended =>
    have hend : startUpEnd s = kickLines (startBoard 1 (startBoard 0 (startedState s))) := if_pos hphase
    refine ⟨startUpEnd s, rfl, ?_, fun n => ?_, fun b => ?_, startUpEnd_rest hphase⟩
    · have hboards : (startBoard 1 (startBoard 0 (startedState s))).outsideBoards = (startedState s).outsideBoards :=
        (enterMode_frame (startBoard 0 (startedState s)) 1 _).trans (enterMode_frame (startedState s) 0 _)
      rw [hend]
      exact State.phase_of_boards hboards
    · rw [startUpEnd_lines hphase, hlines]
      split <;> rfl
    · rw [startUpEnd_board hphase]
      exact enteredMode_of_idle _ (hboards b).1 (hboards b).2

end Sys2Proof.Machine
end

section
/-! PROOFS. The rise of the round clock and the events that a step takes first (R64, R67, R69). -/

namespace Sys2Proof.Machine

variable {s t u : State}

/-! ## What one owner's events leave of the other's compares -/

/-- Two compares of the clock that an event leaves as they were, or, closing the round, disarms (R66); the count stays. -/
def ComparesKept (a b : Clock → Option Nat) (s t : State) : Prop :=
  t.clock.count = s.clock.count ∧
    ((a t.clock = a s.clock ∧ b t.clock = b s.clock ∧ t.clock.running = s.clock.running) ∨
      (a t.clock = none ∧ b t.clock = none))

section
variable {a b : Clock → Option Nat}

theorem ComparesKept.of_clock (h : t.clock = s.clock) : ComparesKept a b s t := by
  unfold ComparesKept; rw [h]; exact ⟨rfl, .inl ⟨rfl, rfl, rfl⟩⟩

theorem ComparesKept.trans (h : ComparesKept a b s t) (k : ComparesKept a b t u) : ComparesKept a b s u := by
  obtain ⟨hcount, h⟩ := h
  obtain ⟨kcount, k⟩ := k
  refine ⟨kcount.trans hcount, ?_⟩
  rcases k with ⟨ka, kb, krunning⟩ | k
  · rcases h with ⟨ha, hb, hrunning⟩ | ⟨ha, hb⟩
    · exact .inl ⟨ka.trans ha, kb.trans hb, krunning.trans hrunning⟩
    · exact .inr ⟨ka.trans ha, kb.trans hb⟩
  · exact .inr k

/-- What an owner finds due after the other's event: what was due before it, or nothing. -/
theorem ComparesKept.due (h : ComparesKept a b s t) :
    (t.clock.due (a t.clock) = s.clock.due (a s.clock) ∧ t.clock.due (b t.clock) = s.clock.due (b s.clock)) ∨
      (t.clock.due (a t.clock) = false ∧ t.clock.due (b t.clock) = false) := by
  obtain ⟨hcount, ⟨ha, hb, hrunning⟩ | ⟨ha, hb⟩⟩ := h
  · exact .inl ⟨by unfold Clock.due; rw [ha, hcount, hrunning], by unfold Clock.due; rw [hb, hcount, hrunning]⟩
  · exact .inr ⟨by simp [Clock.due, ha], by simp [Clock.due, hb]⟩

end

/-- The Round Controller's compares through an event of the Claim Ladder. -/
abbrev LadderSide (s t : State) : Prop := ComparesKept Clock.windowEnd Clock.settlingEnd s t

/-- The Claim Ladder's compares through an event of the Round Controller. -/
abbrev ControllerSide (s t : State) : Prop := ComparesKept Clock.call Clock.judgeDeadline s t

theorem closeRound_compares {a b : Clock → Option Nat} (ha : ∀ n, a { Clock.initial with count := n } = none)
    (hb : ∀ n, b { Clock.initial with count := n } = none) (o : RoundOutcome) (s : State) :
    ComparesKept a b s (closeRound o s) := by
  unfold ComparesKept
  rw [closeRound_clock]
  exact ⟨rfl, .inr ⟨ha _, hb _⟩⟩

/-- A write of the Claim Ladder's own two compares. -/
theorem LadderSide.of_write {call judgeDeadline : Option Nat} (h : t.clock = { s.clock with call, judgeDeadline }) :
    LadderSide s t := by
  unfold LadderSide ComparesKept; rw [h]; exact ⟨rfl, .inl ⟨rfl, rfl, rfl⟩⟩

theorem callHead_side (s : State) : LadderSide s (callHead s) := by
  cases hladder : s.ladder with
  | nil => exact .of_clock (by unfold callHead; rw [hladder])
  | cons head rest => exact .of_write (callHead_clock hladder)

theorem rearmCall_side (s : State) : LadderSide s (rearmCall s) := by
  unfold rearmCall
  split
  · exact .of_write rfl
  · split
    · exact .of_write rfl
    · dsimp only
      split
      · exact callHead_side s
      · exact .of_write rfl

theorem ladderGoesOn_side (s : State) : LadderSide s (ladderGoesOn s) := by
  unfold ladderGoesOn
  split
  · exact closeRound_compares (fun _ => rfl) (fun _ => rfl) .noWinner s
  · exact rearmCall_side s

theorem removeCalled_side {d : Claim} {v : Lamp} (h : u.clock = s.clock) :
    LadderSide s (removeCalled d (verdictLamps d v (lockTeam d.team u))) := by
  refine .of_write (call := s.clock.call) (judgeDeadline := none) ?_
  have hclock : (verdictLamps d v (lockTeam d.team u)).clock = s.clock :=
    (State.clock_of_lamps (verdictLamps_frame _ d v)).trans h
  simp only [removeCalled, hclock]

theorem timeOut_side (d : Claim) (s : State) : LadderSide s (timeOut d s) := by
  unfold timeOut
  split
  · exact (removeCalled_side (u := scoreWrong d.team (s.setNotice .judgeTimeout)) (writeScore_clock (s.setNotice .judgeTimeout) d.team _)).trans (ladderGoesOn_side _)
  · exact (removeCalled_side (u := s.setNotice .judgeTimeout) rfl).trans (ladderGoesOn_side _)

theorem endEvent_compares {a b : Clock → Option Nat} (before t : State) : ComparesKept a b t (endEvent before t) :=
  .of_clock (endEvent_clock t before)

theorem callEvent_side (s : State) : LadderSide s (callEvent s) := by
  unfold callEvent
  split
  · exact (callHead_side s).trans (endEvent_compares s _)
  · exact .of_clock rfl

theorem judgeDeadlineEvent_side (s : State) : LadderSide s (judgeDeadlineEvent s) := by
  unfold judgeDeadlineEvent
  split
  · have hdisarmed : LadderSide s { s with clock := { s.clock with judgeDeadline := none } } := .of_write rfl
    split
    · exact (hdisarmed.trans (timeOut_side _ _)).trans (endEvent_compares s _)
    · exact hdisarmed
  · exact .of_clock rfl

theorem ladderEvent_side (s : State) : LadderSide s (ladderEvent s) := by
  unfold ladderEvent
  split
  · exact callEvent_side s
  · exact judgeDeadlineEvent_side s

/-- A write of the Round Controller's own two compares. -/
theorem ControllerSide.of_write {windowEnd settlingEnd : Option Nat}
    (h : t.clock = { s.clock with windowEnd, settlingEnd }) : ControllerSide s t := by
  unfold ControllerSide ComparesKept; rw [h]; exact ⟨rfl, .inl ⟨rfl, rfl, rfl⟩⟩

theorem settle_side (s : State) : ControllerSide s (settle s) := by
  have hclosed (o : RoundOutcome) (v : State) : ControllerSide v (closeRound o v) :=
    closeRound_compares (fun _ => rfl) (fun _ => rfl) o v
  unfold settle
  split
  · split
    · exact hclosed _ s
    · exact .of_clock rfl
  · next key _ => exact (ComparesKept.of_clock (scorePoll_clock s key)).trans (hclosed _ _)
  · exact .of_clock rfl
  · exact .of_clock rfl

theorem windowEnd_side (s : State) : ControllerSide s (windowEnd s) := by
  unfold windowEnd
  split
  · exact .of_write rfl
  · exact .of_clock rfl

theorem settlingEnd_side (s : State) : ControllerSide s (settlingEnd s) := by
  unfold settlingEnd
  split
  · have hdisarmed : ControllerSide s { s with clock := { s.clock with settlingEnd := none } } := .of_write rfl
    exact (hdisarmed.trans (settle_side _)).trans (endEvent_compares s _)
  · exact .of_clock rfl

theorem controllerEvent_side (s : State) : ControllerSide s (controllerEvent s) := by
  unfold controllerEvent
  split
  · exact windowEnd_side s
  · exact settlingEnd_side s

/-! ## Events that are not due -/

theorem windowEnd_of_not_due (h : s.clock.due s.clock.windowEnd = false) : windowEnd s = s :=
  if_neg fun hdue => by rw [h] at hdue; exact Bool.false_ne_true hdue.2.1

theorem settlingEnd_of_not_due (h : s.clock.due s.clock.settlingEnd = false) : settlingEnd s = s :=
  if_neg fun hdue => by rw [h] at hdue; exact Bool.false_ne_true hdue.2.1

theorem callEvent_of_not_due (h : s.clock.due s.clock.call = false) : callEvent s = s :=
  if_neg fun hdue => by rw [h] at hdue; exact Bool.false_ne_true hdue.2

theorem judgeDeadlineEvent_of_not_due (h : s.clock.due s.clock.judgeDeadline = false) : judgeDeadlineEvent s = s :=
  if_neg fun hdue => by rw [h] at hdue; exact Bool.false_ne_true hdue.2

/-- The event of an owner by its row, `first` saying which of its two compares is due. -/
def controllerRowEvent (first : Bool) (s : State) : State := if first then windowEnd s else settlingEnd s

/-- As `controllerRowEvent`, of the Claim Ladder. -/
def ladderRowEvent (first : Bool) (s : State) : State := if first then callEvent s else judgeDeadlineEvent s

theorem controllerEvent_eq (s : State) : controllerEvent s = controllerRowEvent (s.clock.due s.clock.windowEnd) s := rfl

theorem ladderEvent_eq (s : State) : ladderEvent s = ladderRowEvent (s.clock.due s.clock.call) s := rfl

theorem controllerEvent_of_not_due (h : controllerDue s = false) : controllerEvent s = s := by
  obtain ⟨hwindow, hsettling⟩ := Bool.or_eq_false_iff.mp h
  rw [controllerEvent_eq, hwindow]
  exact settlingEnd_of_not_due hsettling

theorem ladderEvent_of_not_due (h : ladderDue s = false) : ladderEvent s = s := by
  obtain ⟨hcall, hdeadline⟩ := Bool.or_eq_false_iff.mp h
  rw [ladderEvent_eq, hcall]
  exact judgeDeadlineEvent_of_not_due hdeadline

/-- After a controller's event the Claim Ladder takes what was due before it, unless the round has closed. -/
theorem ladderEvent_after (h : ControllerSide s t) : ladderEvent t = ladderRowEvent (s.clock.due s.clock.call) t := by
  rw [ladderEvent_eq]
  rcases h.due with ⟨hcall, -⟩ | ⟨hcall, hdeadline⟩
  · rw [hcall]
  · rw [hcall]
    cases s.clock.due s.clock.call with
    | false => rfl
    | true => exact (judgeDeadlineEvent_of_not_due hdeadline).trans (callEvent_of_not_due hcall).symm

theorem controllerEvent_after (h : LadderSide s t) :
    controllerEvent t = controllerRowEvent (s.clock.due s.clock.windowEnd) t := by
  rw [controllerEvent_eq]
  rcases h.due with ⟨hwindow, -⟩ | ⟨hwindow, hsettling⟩
  · rw [hwindow]
  · rw [hwindow]
    cases s.clock.due s.clock.windowEnd with
    | false => rfl
    | true => exact (settlingEnd_of_not_due hsettling).trans (windowEnd_of_not_due hwindow).symm

theorem ladderDue_after (h : ControllerSide s t) (hnone : ladderDue s = false) : ladderDue t = false := by
  obtain ⟨hcall, hdeadline⟩ := Bool.or_eq_false_iff.mp hnone
  rcases h.due with ⟨hc, hd⟩ | ⟨hc, hd⟩
  · exact Bool.or_eq_false_iff.mpr ⟨hc.trans hcall, hd.trans hdeadline⟩
  · exact Bool.or_eq_false_iff.mpr ⟨hc, hd⟩

/-! ## The rise (R64, R67) -/

/-- A clock below the highest value rises by one, and stops at that value. -/
theorem Clock.rise_eq {k : Clock} (hrunning : k.running = true) (h : k.count < 16777215) :
    k.rise = { k with count := k.count + 1, running := k.count + 1 ≠ 16777215 } := by
  unfold Clock.rise maxCount
  split
  · next hlt =>
    have hne : decide (k.count + 1 ≠ 16777215) = true := decide_eq_true (by omega)
    rw [hne, ← hrunning]
  · next hge =>
    have hlast : k.count + 1 = 16777215 := by omega
    rw [hlast]
    rfl

/-- The rise of a state whose clock still runs, as `ClockRisesAndSaturates` writes it. -/
def State.risen (t : State) : State :=
  if t.clock.running then
    { t with clock := { t.clock with count := t.clock.count + 1, running := t.clock.count + 1 ≠ 16777215 } }
  else t

theorem roundClockStep_of_running (hpowered : s.powered = true) (hrunning : s.clock.running = true)
    (hcount : (takeDueEvents s).clock.count < 16777215) : roundClockStep s = (takeDueEvents s).risen := by
  unfold roundClockStep State.risen
  rw [if_pos ⟨hpowered, hrunning⟩]
  dsimp only
  split
  · next h => rw [Clock.rise_eq h hcount]
  · rfl

theorem takeDueEvents_count (s : State) : (takeDueEvents s).clock.count = s.clock.count := by
  have hladder (v : State) : (ladderEvent v).clock.count = v.clock.count := (ladderEvent_side v).1
  have hcontroller (v : State) : (controllerEvent v).clock.count = v.clock.count := (controllerEvent_side v).1
  unfold takeDueEvents
  dsimp only
  split
  · split
    · rw [hcontroller, hladder]
    · rw [hladder, hcontroller]
  · rw [hladder, hcontroller]

theorem takeDueEvents_of_controller (hladder : ladderDue s = false) : takeDueEvents s = controllerEvent s := by
  unfold takeDueEvents
  rw [if_neg (by simp [hladder])]
  exact ladderEvent_of_not_due (ladderDue_after (controllerEvent_side s) hladder)

theorem takeDueEvents_of_ladder (hcontroller : controllerDue s = false) : takeDueEvents s = ladderEvent s := by
  unfold takeDueEvents
  rw [if_neg (by simp [hcontroller]), controllerEvent_of_not_due hcontroller]

/-- With both owners' events due, each takes its own in one of the two orders (log entry 8). -/
theorem takeDueEvents_of_both (hcontroller : controllerDue s = true) (hladder : ladderDue s = true) :
    let v : State := { s with freeIndex := s.freeIndex + 1 }
    takeDueEvents s = ladderRowEvent (s.clock.due s.clock.call) (controllerRowEvent (s.clock.due s.clock.windowEnd) v) ∨
      takeDueEvents s = controllerRowEvent (s.clock.due s.clock.windowEnd) (ladderRowEvent (s.clock.due s.clock.call) v) := by
  intro v
  have hboth : takeDueEvents s =
      if Config.ladderFirst s.freeIndex then controllerEvent (ladderEvent v) else ladderEvent (controllerEvent v) := by
    unfold takeDueEvents
    rw [if_pos (by rw [hcontroller, hladder]; rfl)]
  rw [hboth]
  split
  · exact .inr (controllerEvent_after (s := v) (ladderEvent_side v))
  · exact .inl (ladderEvent_after (s := v) (controllerEvent_side v))

/-- With every armed compare's target above the count, the step is the rise alone. -/
theorem roundClockStep_of_nothing_due (hpowered : s.powered = true) (hrunning : s.clock.running = true)
    (hcount : s.clock.count < 16777215)
    (hlater : ∀ x, (s.clock.windowEnd = some x ∨ s.clock.settlingEnd = some x ∨ s.clock.call = some x ∨
      s.clock.judgeDeadline = some x) → s.clock.count < x) :
    roundClockStep s = { s with
      clock := { s.clock with count := s.clock.count + 1, running := s.clock.count + 1 ≠ 16777215 } } := by
  have hnever (target : Option Nat) (h : ∀ x, target = some x → s.clock.count < x) : s.clock.due target = false := by
    cases target with
    | none => simp [Clock.due]
    | some x => simp [Clock.due, h x rfl]
  have hcontroller : controllerDue s = false := Bool.or_eq_false_iff.mpr
    ⟨hnever _ fun x h => hlater x (.inl h), hnever _ fun x h => hlater x (.inr (.inl h))⟩
  have hladder : ladderDue s = false := Bool.or_eq_false_iff.mpr
    ⟨hnever _ fun x h => hlater x (.inr (.inr (.inl h))), hnever _ fun x h => hlater x (.inr (.inr (.inr h)))⟩
  have htaken : takeDueEvents s = s :=
    (takeDueEvents_of_controller hladder).trans (controllerEvent_of_not_due hcontroller)
  rw [roundClockStep_of_running hpowered hrunning (by rw [htaken]; exact hcount), htaken]
  exact if_pos hrunning

/-- Settles O44: with nothing due the step is the rise; with events due it takes them, as their rows do, and then rises. -/
theorem clockRisesAndSaturates : Obligations.ClockRisesAndSaturates := by
  refine ⟨fun s hpowered hcount hlater => ⟨fun hrunning => ?rise, fun hrunning hlast => ?last, fun hstopped => ?stands⟩,
    fun s hpowered hrunning hcount => ?due⟩
  case stands =>
    have hstep : roundClockStep s = s := if_neg fun h => by rw [hstopped] at h; exact Bool.false_ne_true h.2
    refine ⟨congrArg Host.Outcome.next hstep, congrArg Host.Outcome.next ?_⟩
    unfold clockSaturation
    split
    · exact hstep
    · rfl
  case rise => exact congrArg Host.Outcome.next (roundClockStep_of_nothing_due hpowered hrunning hcount hlater)
  case last =>
    refine congrArg Host.Outcome.next ((if_pos (by rw [hlast]; rfl)).trans
      ((roundClockStep_of_nothing_due hpowered hrunning hcount hlater).trans ?_))
    rw [hlast]
    rfl
  case due =>
    intro due controller ladder controllerRow ladderRow risen takes takesBoth
    have hdue (target : Option Nat) : due target = s.clock.due target := by
      cases target with
      | none => simp [due, Clock.due]
      | some x => simp [due, Clock.due, hrunning]
    have hcontroller : controller = controllerDue s := by simp only [controller, hdue]; rfl
    have hladder : ladder = ladderDue s := by simp only [ladder, hdue]; rfl
    have hstep : exec .roundClockStep s = .next (risen (takeDueEvents s)) :=
      congrArg Host.Outcome.next (roundClockStep_of_running hpowered hrunning (by rw [takeDueEvents_count]; exact hcount))
    have hcontrollerRow (v : State) :
        exec controllerRow v = .next (controllerRowEvent (s.clock.due s.clock.windowEnd) v) := by
      simp only [controllerRow, hdue, controllerRowEvent]
      cases s.clock.due s.clock.windowEnd <;> rfl
    have hladderRow (v : State) : exec ladderRow v = .next (ladderRowEvent (s.clock.due s.clock.call) v) := by
      simp only [ladderRow, hdue, ladderRowEvent]
      cases s.clock.due s.clock.call <;> rfl
    refine ⟨fun _ hnone => ?_, fun hnone _ => ?_, fun hboth hboth' => ?_⟩
    · rw [takeDueEvents_of_controller (hladder.symm.trans hnone)] at hstep
      exact ⟨_, hcontrollerRow s, hstep⟩
    · rw [takeDueEvents_of_ladder (hcontroller.symm.trans hnone)] at hstep
      exact ⟨_, hladderRow s, hstep⟩
    · rcases takeDueEvents_of_both (hcontroller.symm.trans hboth) (hladder.symm.trans hboth') with h | h
      · rw [h] at hstep
        exact .inl ⟨_, hcontrollerRow _, _, hladderRow _, hstep⟩
      · rw [h] at hstep
        exact .inr ⟨_, hladderRow _, _, hcontrollerRow _, hstep⟩

end Sys2Proof.Machine
end

section
/-! PROOFS. SET RULE and the rule store (R196 to R203), and the boards' two requests (R160, R161). -/

namespace Sys2Proof.Machine

variable {c : Bool} {s t : State} {r : RuleId} {v : BitVec 24}

/-! ## What SET RULE leaves (R197) -/

/-- The value that SET RULE stores: the value given, clamped under the rules that stand. -/
def State.ruleSet (s : State) (r : RuleId) (v : BitVec 24) : Nat := clampRule (s.rule Rule.holdUpper) r v.toNat

/-- The state that SET RULE leaves before its answer. -/
def ruleWritten (c : Bool) (r : RuleId) (v : BitVec 24) (s : State) : State :=
  kickLines (writeRule r (s.ruleSet r v) (received c (.setRule (byte r.val) v) s))

theorem clampedIf_ne (a b : Nat) : clampedIf (a ≠ b) = if a = b then .done else .clamped := by
  unfold clampedIf
  by_cases h : a = b <;> simp [h]

theorem writeRule_round (r : RuleId) (v : Nat) (s : State) : (writeRule r v s).round = s.round := by
  have e := congrArg State.round (writeRule_outside r v s); exact e

/-- SET RULE outside a store, and outside a round for the rules of the lines, writes and answers. -/
theorem exec_setRule (hs : PortReady c s) (hfree : s.storing = none)
    (hround : 12 ≤ r.val → r.val ≤ 16 → s.roundActive = false) :
    exec (.setRule c (byte r.val) v) s = .next (answered c (if s.ruleSet r v = v.toNat then .done else .clamped)
      (le24Nat (s.ruleSet r v)) (ruleWritten c r v s)) := by
  let u := received c (.setRule (byte r.val) v) s
  have hwritten : endEvent u (writeRule r (s.ruleSet r v) u) = ruleWritten c r v s :=
    endEvent_of_round (writeRule_round r _ u)
  have hheld : ¬ (s.roundActive = true ∧ heldInRound r = true) := by
    rintro ⟨hactive, hheld⟩
    simp only [heldInRound, decide_eq_true_eq] at hheld
    rw [hround hheld.1 hheld.2] at hactive
    cases hactive
  have hstored : clampRule (u.rule Rule.holdUpper) r v.toNat = s.ruleSet r v := by
    rw [received_rule]; rfl
  have hserve : serveSetRule (byte r.val) v u =
      (ruleWritten c r v s, { status := clampedIf (s.ruleSet r v ≠ v.toNat), data := le24Nat (s.ruleSet r v) }) := by
    simp only [serveSetRule, ruleArg_byte, hstored, hwritten]
    simp only [u, received_storing, hfree, received_roundActive, Option.isSome_none, if_neg hheld]
    simp
  have hprocess : (ruleWritten c r v s).inProcess = s.inProcess := by
    have e := congrArg State.inProcess (writeRule_outside r (s.ruleSet r v) u)
    exact e.trans (received_inProcess _ _ _)
  rw [← clampedIf_ne]
  exact exec_of_served (t := ruleWritten c r v s) rfl rfl hs (by rw [serve, hserve]) hprocess

/-- What SET RULE leaves of every rule (R197). -/
theorem ruleWritten_rule (c : Bool) (r : RuleId) (v : BitVec 24) (s : State) (q : RuleId) :
    (ruleWritten c r v s).rule q =
      if q = r then s.ruleSet r v
      else if q = Rule.holdLower ∧ r = Rule.holdUpper ∧ s.ruleSet r v ≤ s.rule Rule.holdLower then s.ruleSet r v - 1
      else s.rule q := by
  have h := writeRule_rule r (s.ruleSet r v) (received c (.setRule (byte r.val) v) s) q
  rw [received_rule, received_rule] at h
  exact h

theorem ruleWritten_rule_same (c : Bool) (r : RuleId) (v : BitVec 24) (s : State) :
    (ruleWritten c r v s).rule r = s.ruleSet r v := by rw [ruleWritten_rule, if_pos rfl]

theorem ruleWritten_line (c : Bool) (r : RuleId) (v : BitVec 24) (s : State) (n : LineNo) :
    (ruleWritten c r v s).line n =
      ((writeRule r (s.ruleSet r v) (received c (.setRule (byte r.val) v) s)).line n).kick := kickLines_line _ n

/-- SET RULE reaches rules, lines, boards and watchdog alone. -/
theorem ruleWritten_outside (c : Bool) (r : RuleId) (v : BitVec 24) (s : State) :
    (ruleWritten c r v s).outsideRuleWrites = (received c (.setRule (byte r.val) v) s).outsideRuleWrites :=
  writeRule_outside r _ _

theorem ruleWritten_answers (c : Bool) (r : RuleId) (v : BitVec 24) (s : State) (status : Status) (data : List Byte) :
    (answered c status data (ruleWritten c r v s)).answers = (answered c status data s).answers := by
  have h := ruleWritten_outside c r v s
  have hanswers := congrArg State.answers h
  have haddress := congrArg State.targetAddress h
  have hsame : (ruleWritten c r v s).answers = s.answers := hanswers.trans (received_answers _ _ _)
  have htarget : (ruleWritten c r v s).targetAddress = s.targetAddress := haddress.trans (received_targetAddress _ _ _)
  rw [answered, answered, hsame, htarget]

/-- The thresholds are applied with the rules that SET RULE leaves (R56). -/
theorem ruleWritten_line_of_threshold (hlow : 17 ≤ r.val) (hhigh : r.val ≤ 19) (n : LineNo) :
    (ruleWritten c r v s).line n =
      if s.lineEnabled n then
        ((s.line n).applyThresholds ((ruleWritten c r v s).rule Rule.holdUpper)
          ((ruleWritten c r v s).rule Rule.holdLower)).kick
      else (s.line n).kick := by
  rw [ruleWritten_line, writeRule_line_of_threshold hlow hhigh, received_lineEnabled, received_line, apply_ite Line.kick]
  rfl

/-- A value in its rule's range is stored and answered DONE. -/
theorem exec_setRule_of_inRange {n : Nat} (hs : PortReady c s) (hfree : s.storing = none)
    (hround : 12 ≤ r.val → r.val ≤ 16 → s.roundActive = false) (hn : n < 2 ^ 24)
    (hstored : s.ruleSet r (BitVec.ofNat 24 n) = n) :
    exec (.setRule c (byte r.val) (BitVec.ofNat 24 n)) s =
      .next (answered c .done (le24Nat n) (ruleWritten c r (BitVec.ofNat 24 n) s)) := by
  have hvalue : (BitVec.ofNat 24 n).toNat = n := Nat.mod_eq_of_lt hn
  rw [exec_setRule hs hfree hround, hstored, hvalue, if_pos rfl]

/-- Rules 0 to 11, 24 and 25 act on nothing when they are written (R198). -/
theorem writeRule_of_inert (h : r.val ≤ 11 ∨ 24 ≤ r.val) (v : Nat) (s : State) :
    writeRule r v s = s.setRuleValue r v := by
  unfold writeRule
  dsimp only
  split
  case h_13 => rfl
  all_goals omega

/-- WATCH_MODE and WATCH_INTERVAL arm or disarm the watchdog (R188). -/
theorem writeRule_watchdog (r : RuleId) (v : Nat) (s : State) :
    (writeRule r v s).watchdog =
      if r = Rule.watchMode ∨ r = Rule.watchInterval then (writeRule r v s).armedWatchdog .unarmed else s.watchdog := by
  have hne {k : Nat} (hval : r.val = k) (h : k ≠ 20 ∧ k ≠ 21) : ¬ (r = Rule.watchMode ∨ r = Rule.watchInterval) := by
    rintro (rfl | rfl)
    · exact h.1 hval.symm
    · exact h.2 hval.symm
  unfold writeRule
  dsimp only
  split
  case h_6 hval => rw [if_neg (hne hval (by decide))]; unfold lowerFollows; split <;> rfl
  case h_9 hval => rw [if_pos (.inl (Fin.ext hval))]; rfl
  case h_10 hval => rw [if_pos (.inr (Fin.ext hval))]; rfl
  case h_11 hval =>
    rw [if_neg (hne hval (by decide))]
    have e := congrArg State.watchdog (resolveBoard_frame (s.setRuleValue r v) 0); exact e
  case h_12 hval =>
    rw [if_neg (hne hval (by decide))]
    have e := congrArg State.watchdog (resolveBoard_frame (s.setRuleValue r v) 1); exact e
  case h_13 h20 h21 _ _ =>
    rw [if_neg (by rintro (rfl | rfl); exacts [h20 rfl, h21 rfl])]
    rfl
  all_goals
    next hval => rw [if_neg (hne hval (by decide))]; rfl

theorem ruleWritten_watchdog (c : Bool) (r : RuleId) (v : BitVec 24) (s : State) :
    (ruleWritten c r v s).watchdog =
      if r = Rule.watchMode ∨ r = Rule.watchInterval then (ruleWritten c r v s).armedWatchdog .unarmed
      else (received c (.setRule (byte r.val) v) s).watchdog := writeRule_watchdog r _ _

/-! ## Thresholds and line rules at a line (R43, R49, R56) -/

theorem Line.applyThresholds_kick {l : Line} (h : l.sending = none → l.outboundCount = 0) (upper lower : Nat) :
    (l.applyThresholds upper lower).kick = l.thresholdsMet upper lower := by
  unfold Line.applyThresholds Line.thresholdsMet
  split
  · split
    · exact Line.queueFlow_kick (l := { l with held := false, rehold := 0 }) h .go
    · exact Line.kick_of_busy h
  · split
    · exact Line.queueFlow_kick (l := { l with held := true, rehold := 0 }) h .hold
    · exact Line.kick_of_busy h

theorem Line.applyThresholds_held (l : Line) (upper lower : Nat) :
    (l.applyThresholds upper lower).held = true ↔ if l.held then lower < l.queue.length else upper ≤ l.queue.length := by
  unfold Line.applyThresholds
  cases hheld : l.held with
  | true =>
    by_cases hlower : l.queue.length ≤ lower
    · simp [hlower, Line.release]
    · simp [hlower, hheld]; omega
  | false =>
    by_cases hupper : upper ≤ l.queue.length
    · simp [hupper, Line.enterHeld]
    · simp [hupper, hheld]

/-- A line whose LINEn_SEATS was 0 begins with GO where its transmitter rests, and queues its CLOSED mark (R49). -/
theorem Line.enable_kick (l : Line) :
    l.enable.kick =
      if l.sending.isSome then
        { Line.initial with flow := some .go, entries := [.mark .closed], sending := l.sending }
      else { Line.initial with entries := [.mark .closed], sending := some (.flow .go) } := by
  cases hsending : l.sending <;>
    simp [Line.enable, Line.queueFlow, Line.queueMark, Line.kick, foldEntry, Line.initial, hsending]

/-- A disabled line holds nothing to send (R48). -/
theorem Line.disable_kick (l : Line) : l.disable.kick = { Line.initial with sending := l.sending } :=
  Line.kick_of_busy (l := l.disable) fun _ => rfl

theorem lineSeats_byte (n : LineNo) : byte (12 + n.val) = byte (Rule.lineSeats n).val := by revert n; decide

theorem lineSeats_low (n : LineNo) : ruleLow (Rule.lineSeats n) = 0 := by revert n; decide

theorem lineSeats_high (n : LineNo) (upper : Nat) : ruleHigh upper (Rule.lineSeats n) = 32 := by
  match n with
  | 0 | 1 | 2 | 3 => rfl

theorem lineSeats_val (n : LineNo) : 12 ≤ (Rule.lineSeats n).val ∧ (Rule.lineSeats n).val ≤ 15 := by revert n; decide

/-! ## Values in range (R196) -/

theorem clampNat_of_mem {low high v : Nat} (hlow : low ≤ v) (hhigh : v ≤ high) : clampNat low high v = v := by
  unfold clampNat
  rw [if_neg (Nat.not_lt.mpr hlow), if_neg (Nat.not_lt.mpr hhigh)]

/-- A value in its rule's range is stored as it is given. -/
theorem State.ruleSet_of_inRange (s : State) {r : RuleId} {v : Nat} (hr : r ≠ Rule.holdLower) (h22 : r ≠ 22)
    (h23 : r ≠ 23) (hlow : ruleLow r ≤ v) (hhigh : v ≤ ruleHigh 2 r) (hv : v < 2 ^ 24) :
    s.ruleSet r (BitVec.ofNat 24 v) = v := by
  rw [State.ruleSet, clampRule_of_ne hr _ 2, clampRule, if_neg (not_or.mpr ⟨h22, h23⟩), BitVec.toNat_ofNat,
    Nat.mod_eq_of_lt hv, clampNat_of_mem hlow hhigh]

/-- The rules of the flow control act on enabled lines, and the later ones on no line (R56, R198). -/
theorem ruleWritten_line_of_acting (hlow : 17 ≤ r.val) (hbusy : TransmittersBusy s) (n : LineNo) :
    (ruleWritten c r v s).line n =
      if r.val ≤ 19 ∧ s.lineEnabled n = true then
        (s.line n).thresholdsMet ((ruleWritten c r v s).rule Rule.holdUpper) ((ruleWritten c r v s).rule Rule.holdLower)
      else s.line n := by
  by_cases hr : r.val ≤ 19
  · rw [ruleWritten_line_of_threshold hlow hr]
    by_cases hn : s.lineEnabled n = true
    · rw [if_pos hn, if_pos ⟨hr, hn⟩, Line.applyThresholds_kick (hbusy n)]
    · rw [if_neg hn, if_neg fun h => hn h.2, Line.kick_of_busy (hbusy n)]
  · rw [if_neg fun h => hr h.1, ruleWritten_line, writeRule_line_of_other (.inr (by omega)), received_line,
      Line.kick_of_busy (hbusy n)]

/-- The board whose configuration is written resolves, and no other (R159, R163). -/
theorem ruleWritten_board (c : Bool) (r : RuleId) (v : BitVec 24) (s : State) (b : BoardNo) :
    let u := received c (.setRule (byte r.val) v) s
    if r = Rule.boardCfg b then BoardResolved u (ruleWritten c r v s) b else (ruleWritten c r v s).board b = u.board b :=
  writeRule_boards r _ _ b

/-- The answer of SET RULE stands beside what the write reaches. -/
theorem ruleWritten_answered (c : Bool) (r : RuleId) (v : BitVec 24) (s : State) :
    let u := received c (.setRule (byte r.val) v) s
    { answered c (if s.ruleSet r v = v.toNat then .done else .clamped) (le24Nat (s.ruleSet r v)) (ruleWritten c r v s) with
      rules := u.rules, lines := u.lines, watchdog := u.watchdog, boards := u.boards } =
      answered c (if (ruleWritten c r v s).rule r = v.toNat then .done else .clamped)
        (le24Nat ((ruleWritten c r v s).rule r)) u := by
  intro u
  rw [ruleWritten_rule_same]
  have e := congrArg (fun x : State => { answered c (if s.ruleSet r v = v.toNat then .done else .clamped)
    (le24Nat (s.ruleSet r v)) x with rules := u.rules, lines := u.lines, watchdog := u.watchdog, boards := u.boards })
    (ruleWritten_outside c r v s)
  exact e

/-- Settles O55: the state that SET RULE leaves, read at rules, lines, boards and watchdog. -/
theorem setRuleWritesAndActs : Obligations.SetRuleWritesAndActs := by
  refine ⟨fun c r v s hs hfree hround => ?any, fun c r v s hs hfree hr hbusy => ?inert,
    fun c value code s hs hfree hlow hhigh hcode => ⟨?upper, ?mode⟩,
    fun c n seats rate s hs hfree hidle hbusy hseats hlow hhigh => ⟨?seats, ?rate⟩,
    fun c r v s hs hfree hlow hhigh => ?acting⟩
  case any =>
    intro stored
    have hstored : s.ruleSet r v = stored := rfl
    have hexec := exec_setRule (v := v) hs hfree hround
    have hrule := ruleWritten_rule c r v s
    have hanswers := ruleWritten_answers c r v s (if s.ruleSet r v = v.toNat then .done else .clamped) (le24Nat stored)
    have hwritten := ruleWritten_outside c r v s
    have hframe := received_frame c (.setRule (byte r.val) v) s
    rw [hstored] at hexec hrule hanswers
    generalize ruleWritten c r v s = w at *
    generalize received c (.setRule (byte r.val) v) s = u at *
    refine ⟨_, hexec, (hrule r).trans (if_pos rfl), fun q hq => (hrule q).trans ?_, hanswers, ?_⟩
    · rw [if_neg hq]
      by_cases h : q = Rule.holdLower ∧ r = Rule.holdUpper ∧ stored ≤ s.rule Rule.holdLower
      · rw [if_pos h]; exact (if_pos h).symm
      · rw [if_neg h]; exact (if_neg h).symm
    · let restore (x : State) : State :=
        { x with rules := s.rules, lines := s.lines, boards := s.boards, watchdog := s.watchdog,
                 consoleLost := s.consoleLost, answers := s.answers, bus := s.bus }
      have e := congrArg restore hwritten
      have e' := congrArg restore hframe
      exact e.trans e'
  case inert =>
    intro stored
    have hstored : s.ruleSet r v = stored := by
      have h22 : r ≠ 22 := fun e => by subst e; revert hr; decide
      have h23 : r ≠ 23 := fun e => by subst e; revert hr; decide
      exact if_neg (not_or.mpr ⟨h22, h23⟩)
    have hwritten : ruleWritten c r v s = (received c (.setRule (byte r.val) v) s).setRuleValue r stored := by
      rw [ruleWritten, hstored, writeRule_of_inert hr]
      exact kickLines_of_busy (s := State.setRuleValue r stored _) (received_transmittersBusy _ hbusy)
    rw [exec_setRule hs hfree (by omega), hstored, hwritten]
  case upper =>
    have hstored := s.ruleSet_of_inRange (r := Rule.holdUpper) (v := value) (by decide) (by decide) (by decide) hlow hhigh
      (by omega)
    have hupper := ruleWritten_rule_same c Rule.holdUpper (BitVec.ofNat 24 value) s
    have hlower := ruleWritten_rule c Rule.holdUpper (BitVec.ofNat 24 value) s Rule.holdLower
    rw [hstored] at hupper hlower
    rw [if_neg (by decide)] at hlower
    simp only [true_and] at hlower
    have hexec := exec_setRule_of_inRange (r := Rule.holdUpper) (c := c) hs hfree (fun _ h => absurd h (by decide))
      (by omega) hstored
    have hanswers := ruleWritten_answers c Rule.holdUpper (BitVec.ofNat 24 value) s .done (le24Nat value)
    have hline (n : LineNo) := ruleWritten_line_of_threshold (c := c) (s := s) (r := Rule.holdUpper)
      (v := BitVec.ofNat 24 value) (by decide) (by decide) n
    rw [hupper, hlower] at hline
    generalize ruleWritten c Rule.holdUpper (BitVec.ofNat 24 value) s = w at *
    refine ⟨_, hexec, hupper, hlower, fun n hn => ?_, hanswers⟩
    refine (iff_of_eq (congrArg (·.held = true) ((hline n).trans (if_pos hn)))).trans ?_
    rw [(Line.kick_held _).1]
    exact Line.applyThresholds_held _ _ _
  case mode =>
    have hstored := s.ruleSet_of_inRange (r := Rule.watchMode) (v := code) (by decide) (by decide) (by decide)
      (Nat.zero_le _) hcode (by omega)
    have hmode := ruleWritten_rule_same c Rule.watchMode (BitVec.ofNat 24 code) s
    have hinterval := ruleWritten_rule c Rule.watchMode (BitVec.ofNat 24 code) s Rule.watchInterval
    rw [hstored] at hmode
    rw [if_neg (by decide), if_neg fun h => absurd h.1 (by decide)] at hinterval
    have hexec := exec_setRule_of_inRange (r := Rule.watchMode) (c := c) hs hfree (fun _ h => absurd h (by decide))
      (by omega) hstored
    have hanswers := ruleWritten_answers c Rule.watchMode (BitVec.ofNat 24 code) s .done (le24Nat code)
    have hdog := ruleWritten_watchdog c Rule.watchMode (BitVec.ofNat 24 code) s
    rw [if_pos (.inl rfl), State.armedWatchdog, hmode, hinterval] at hdog
    generalize ruleWritten c Rule.watchMode (BitVec.ofNat 24 code) s = w at *
    exact ⟨_, hexec, hmode, hdog, hanswers⟩
  case seats =>
    have hne := lineSeats_val n
    have hlower : Rule.lineSeats n ≠ Rule.holdLower := fun e => by rw [e] at hne; revert hne; decide
    have hstored := s.ruleSet_of_inRange (r := Rule.lineSeats n) (v := seats) hlower
      (fun e => by rw [e] at hne; revert hne; decide) (fun e => by rw [e] at hne; revert hne; decide)
      (by rw [lineSeats_low]; exact Nat.zero_le _) (by rw [lineSeats_high]; exact hseats) (by omega)
    rw [lineSeats_byte]
    refine ⟨_, exec_setRule_of_inRange hs hfree (fun _ _ => hidle) (by omega) hstored, ?_⟩
    have hline (m : LineNo) : (ruleWritten c (Rule.lineSeats n) (BitVec.ofNat 24 seats) s).line m =
        if m = n then ((s.line m).seatsWritten (s.rule (Rule.lineSeats m)) seats).kick else s.line m := by
      rw [ruleWritten_line, hstored, writeRule_line_of_lineSeats, received_line, received_rule, apply_ite Line.kick,
        Line.kick_of_busy (hbusy m)]
    have hown := (hline n).trans (if_pos rfl)
    refine ⟨fun m hm => (hline m).trans (if_neg hm), fun hn hzero => ?_, fun hn hzero => ?_, fun hn hzero => ?_,
      fun hn hzero => ?_⟩
    all_goals
      refine hown.trans ?_
      simp only [State.lineEnabled, decide_eq_true_eq, decide_eq_false_iff_not, not_not] at hn
    · rw [Line.seatsWritten, if_neg fun h => hzero h.2, if_neg fun h => hn h.1, Line.kick_of_busy (hbusy n)]
    · rw [Line.seatsWritten, if_pos ⟨hn, hzero⟩, Line.disable_kick]
    · rw [Line.seatsWritten, if_neg fun h => h.1 hn, if_neg fun h => h.2 hzero, Line.kick_of_busy (hbusy n)]
    · rw [Line.seatsWritten, if_neg fun h => hzero h.2, if_pos ⟨hn, hzero⟩, Line.enable_kick]
  case rate =>
    have hstored := s.ruleSet_of_inRange (r := Rule.seatRate) (v := rate) (by decide) (by decide) (by decide) hlow hhigh
      (by omega)
    refine ⟨_, exec_setRule_of_inRange (r := Rule.seatRate) hs hfree (fun _ _ => hidle) (by omega) hstored, fun m => ?_⟩
    refine (ruleWritten_line c Rule.seatRate (BitVec.ofNat 24 rate) s m).trans ?_
    rw [writeRule_line_of_seatRate, received_lineEnabled, received_line]
    split
    · exact Line.kick_of_busy (l := (s.line m).rateWritten) (hbusy m)
    · exact Line.kick_of_busy (hbusy m)
  case acting =>
    intro u
    have hexec := exec_setRule (r := r) (v := v) hs hfree fun _ h => absurd hlow (by omega)
    have hline := fun hbusy n => ruleWritten_line_of_acting (c := c) (v := v) (s := s) hlow hbusy n
    have hdog := ruleWritten_watchdog c r v s
    have hboard := ruleWritten_board c r v s
    have hanswered := ruleWritten_answered c r v s
    generalize ruleWritten c r v s = w at *
    exact ⟨_, hexec, hline, hdog, hboard, hanswered⟩

end Sys2Proof.Machine
end

section
/-! PROOFS. The boards' two requests (R160, R161) and the end of a transfer, with what images hold (R166, R168 to R170). -/

namespace Sys2Proof.Machine

variable {c : Bool} {s t : State} {b : BoardNo}

/-! ## SET BOARD (R160) -/

theorem writeRule_of_boardCfg (b : BoardNo) (v : Nat) (s : State) :
    writeRule (Rule.boardCfg b) v s = resolveBoard b (s.setRuleValue (Rule.boardCfg b) v) := by
  match b with
  | 0 | 1 => rfl

theorem flagArg_bit (x : Bool) : flagArg (if x then 1#8 else 0#8) = some x := by cases x <;> rfl

theorem sourceArg_byte {source : Nat} (h : source < 4) : sourceArg (byte source) = some (.ofCode source) := by
  have hbyte : (byte source).toNat = source := Nat.mod_eq_of_lt (by omega)
  rw [sourceArg, hbyte, if_pos h]

theorem BoardMode.code_ofCode {source : Nat} (h : source < 4) : (BoardMode.ofCode source).code = source := by
  match source, h with
  | 0, _ | 1, _ | 2, _ | 3, _ => rfl

theorem weight_eq (x : Bool) (k : Nat) : k * flag x = if x then k else 0 := by cases x <;> simp [flag]

theorem configArg_of_bits {source : Nat} (h : source < 4) (select console hold blank : Bool) :
    ∃ config : BoardConfig,
      configArg (byte source) (if select then 1#8 else 0#8) (if console then 1#8 else 0#8) (if hold then 1#8 else 0#8)
        (if blank then 1#8 else 0#8) = some config ∧
      config.pack = source + (if select then 4 else 0) + (if console then 8 else 0) + (if hold then 16 else 0) +
        (if blank then 32 else 0) := by
  refine ⟨⟨.ofCode source, select, console, hold, blank⟩, by simp only [configArg, sourceArg_byte h, flagArg_bit], ?_⟩
  simp only [BoardConfig.pack, BoardMode.code_ofCode h, weight_eq]

/-- The write of a board's configuration reaches the rule and the board alone, which resolves (R159). -/
theorem writeRule_boardCfg_spec (b : BoardNo) (v : Nat) (u : State) :
    let w := writeRule (Rule.boardCfg b) v u
    w.rules = u.rules.set (Rule.boardCfg b) v ∧ BoardResolved u w b ∧ (∀ x, x ≠ b → w.board x = u.board x) ∧
      { w with rules := u.rules, boards := u.boards } = u ∧ w.inProcess = u.inProcess := by
  intro w
  have hframe : w.outsideBoards = (u.setRuleValue (Rule.boardCfg b) v).outsideBoards :=
    (congrArg State.outsideBoards (writeRule_of_boardCfg b v u)).trans (resolveBoard_frame _ b)
  have hboard := writeRule_boards (Rule.boardCfg b) v u
  refine ⟨?_, ?_, fun x hx => ?_, ?_, ?_⟩
  · have e := congrArg State.rules hframe; exact e
  · have h := hboard b
    rwa [if_pos rfl] at h
  · have h := hboard x
    rwa [if_neg fun e => hx (boardCfg_inj.mp e).symm] at h
  · have e := congrArg (fun x : State => { x with rules := u.rules, boards := u.boards }) hframe; exact e
  · have e := congrArg State.inProcess hframe; exact e

/-! ## SET MESSAGE (R161) -/

theorem padRight_of_le {width : Nat} {text : List Byte} (h : text.length ≤ width) :
    padRight width text = text ++ List.replicate (width - text.length) 0x20#8 := by
  rw [padRight, List.take_append, List.take_of_length_le h, List.take_replicate, Nat.min_eq_left (by omega)]

theorem State.setBoard_setBoard (s : State) (b : BoardNo) (x y : Board) : (s.setBoard b x).setBoard b y = s.setBoard b y :=
  congrArg (fun boards => { s with boards }) (Vector.set_set ..)

/-- The stored text is the whole of what the request writes, but in MESSAGE, where a board sends it (R161). -/
theorem storeMessage_eq (b : BoardNo) {text : List Byte} (h : text.length ≤ 32) (s : State) :
    let d := s.board b
    let stored := text.map printable ++ List.replicate (32 - text.length) 0x20#8
    storeMessage b text s = s.setBoard b
      (if d.mode = .message then
        if d.inFlight.isSome then { d with message := stored, pending := some .message }
        else { d with
          message := stored, orderVoid := false
          inFlight := some { kind := .message, image := stored ++ List.replicate 224 0x20#8, order := [] } }
      else { d with message := stored }) := by
  intro d stored
  have hpad : padRight 32 (text.map printable) = stored := by
    rw [padRight_of_le (by simpa using h), List.length_map]
  have hlength : stored.length = 32 := by rw [← hpad]; exact padRight_length _ _
  have himage : messageImage stored = stored ++ List.replicate 224 0x20#8 := by
    rw [messageImage, padRight_of_le (by omega), hlength]
  have hboard : (s.setBoard b { d with message := stored }).board b = { d with message := stored } :=
    State.setBoard_board_same _ _ _
  unfold storeMessage
  dsimp only
  rw [hpad]
  by_cases hmode : d.mode = .message
  · rw [if_pos hmode, if_pos hmode]
    unfold sendImage
    rw [hboard]
    by_cases hflight : d.inFlight.isSome = true
    · rw [if_pos hflight, if_pos hflight, State.setBoard_setBoard]
    · rw [if_neg hflight, if_neg hflight]
      dsimp only
      rw [startImage, State.newTransfer, hboard, State.setBoard_setBoard, himage]
  · rw [if_neg hmode, if_neg hmode]

/-- Settles O53: the configuration packs to the rule's value, whose write resolves its board; the text is one write of the
board's record. -/
theorem boardRequestsAct : Obligations.BoardRequestsAct := by
  intro c b source select console hold blank text s hs hsource htext bit weight r u v stored
  refine ⟨?config, ?message⟩
  case config =>
    obtain ⟨config, hconfig, hpack⟩ := configArg_of_bits hsource select console hold blank
    obtain ⟨hrules, hboard, hother, hframe, hprocess⟩ := writeRule_boardCfg_spec b config.pack u
    have hserve : serve s.consoleLost r u = (writeRule (Rule.boardCfg b) config.pack u, some Status.done.bare) := by
      have h : serveSetBoard (byte b.val) (byte source) (bit select) (bit console) (bit hold) (bit blank) u =
          (writeRule (Rule.boardCfg b) config.pack u, Status.done.bare) := by
        simp only [serveSetBoard, boardArg_byte, bit, hconfig]
      simp only [r, serve, h]
    generalize writeRule (Rule.boardCfg b) config.pack u = w at *
    rw [hpack, received_rules] at hrules
    exact ⟨_, exec_of_served (t := w) rfl rfl hs hserve (hprocess.trans (received_inProcess _ _ _)), hrules, hboard,
      hother, congrArg (answered c .done []) hframe⟩
  case message =>
    have hserve : serve s.consoleLost (.setMessage (byte b.val) text) v =
        (storeMessage b text v, some Status.done.bare) := by
      simp only [serve, serveSetMessage, boardArg_byte, storeMessage]
    have hprocess : (storeMessage b text v).inProcess = s.inProcess := by
      have e := congrArg State.inProcess (storeMessage_frame b text v)
      exact e.trans (received_inProcess _ _ _)
    have hexec := exec_of_served (i := .setMessage c (byte b.val) text) (r := .setMessage (byte b.val) text)
      (t := storeMessage b text v) rfl (decide_eq_true htext) hs hserve hprocess
    rw [storeMessage_eq b htext] at hexec
    exact hexec

end Sys2Proof.Machine
end

section
/-! PROOFS. The end of a transfer, and what a started image holds (R166, R168 to R170). -/

namespace Sys2Proof.Machine

variable {s : State}

/-! ## Columns of a line (R168) -/

/-- A rank in its two columns. -/
theorem padLeft_digits_rank {rank : Nat} (h : rank < 18) :
    padLeft 2 (digits rank) = [if rank < 10 then 0x20#8 else byte (0x30 + rank / 10), byte (0x30 + rank % 10)] := by
  revert rank; decide

/-- A number below 100000 has 1 to 5 digits, each power of ten telling whether it has more. -/
theorem exists_digitCount {a : Nat} (h : a < 100000) : ∃ d, 1 ≤ d ∧ d ≤ 5 ∧
    (10 ≤ a ↔ 1 < d) ∧ (100 ≤ a ↔ 2 < d) ∧ (1000 ≤ a ↔ 3 < d) ∧ (10000 ≤ a ↔ 4 < d) := by
  rcases Nat.lt_or_ge a 10 with h1 | h1
  · exact ⟨1, by omega⟩
  rcases Nat.lt_or_ge a 100 with h2 | h2
  · exact ⟨2, by omega⟩
  rcases Nat.lt_or_ge a 1000 with h3 | h3
  · exact ⟨3, by omega⟩
  rcases Nat.lt_or_ge a 10000 with h4 | h4
  · exact ⟨4, by omega⟩
  · exact ⟨5, by omega⟩

/-- A score in its five columns. -/
theorem padLeft_scoreText {v : Int} (hlow : -9999 ≤ v) (hhigh : v ≤ 99999) :
    padLeft 5 (scoreText v) =
      [scoreColumn v 4, scoreColumn v 3, scoreColumn v 2, scoreColumn v 1, scoreColumn v 0] := by
  have ha : v.natAbs < 100000 := by omega
  have hsmall : v < 0 → v.natAbs < 10000 := by omega
  obtain ⟨d, hone, hfive, h1, h2, h3, h4⟩ := exists_digitCount ha
  generalize e : v.natAbs = a at *
  unfold scoreText scoreColumn digits
  simp only [e, ← Nat.not_le, Nat.reducePow, Nat.reduceSub, h1, h2, h3, h4]
  by_cases hneg : v < 0
  · have : ¬ 4 < d := by have := hsmall hneg; omega
    simp only [hneg, if_true, true_and]
    have : d = 1 ∨ d = 2 ∨ d = 3 ∨ d = 4 := by omega
    rcases this with rfl | rfl | rfl | rfl <;> simp [padLeft]
  · simp only [hneg, if_false, false_and]
    have : d = 1 ∨ d = 2 ∨ d = 3 ∨ d = 4 ∨ d = 5 := by omega
    rcases this with rfl | rfl | rfl | rfl | rfl <;> simp [padLeft]

/-- The change marker against the last-LIVE order, told without the place in it (R169). -/
theorem changeMarker_eq (lastLive : List TeamNo) (x : TeamNo) (k : Nat) :
    changeMarker lastLive x k = markerColumn lastLive x k := by
  unfold changeMarker markerColumn
  split
  · next hnone =>
    have hnot : x ∉ lastLive := fun hmem => by simpa using List.findIdx?_eq_none_iff.mp hnone x hmem
    rw [if_pos hnot]
  · next before hsome =>
    obtain ⟨hlength, hat, hfirst⟩ := List.findIdx?_eq_some_iff_getElem.mp hsome
    have hx : lastLive[before] = x := by simpa using hat
    have hmem : x ∈ lastLive := hx ▸ List.getElem_mem hlength
    have htake : x ∈ lastLive.take k ↔ before < k := by
      refine ⟨fun h => ?_, fun h => ?_⟩
      · obtain ⟨j, hj, hjx⟩ := List.mem_take_iff_getElem.mp h
        by_contra hge
        exact absurd (hfirst j (by omega)) (by simpa using hjx)
      · exact List.mem_take_iff_getElem.mpr ⟨before, by omega, hx⟩
    rw [if_neg (not_not.mpr hmem)]
    by_cases hless : before < k
    · rw [if_neg (by omega), if_pos hless, if_pos (htake.mpr hless)]
    · rw [if_neg (mt htake.mp hless)]
      by_cases heq : k = before
      · subst heq
        rw [if_neg (by omega), if_neg (by omega), if_pos (by rw [List.getElem?_eq_getElem hlength, hx])]
      · rw [if_pos (by omega), if_neg]
        intro hk
        obtain ⟨hlt, hkx⟩ := List.getElem?_eq_some_iff.mp hk
        exact absurd (hfirst k (by omega)) (by simpa using hkx)

theorem labelText_eq (x : TeamNo) (label : List Byte) : labelText x label = shownName x label := by
  unfold labelText shownName
  cases label <;> rfl

theorem shownName_length (x : TeamNo) {label : List Byte} (h : label.length ≤ 8) : (shownName x label).length ≤ 8 := by
  unfold shownName
  split
  · exact Nat.le_succ 7
  · exact h

theorem padRight_getElem? {width : Nat} {text : List Byte} (h : text.length ≤ width) {k : Nat} (hk : k < width) :
    (padRight width text)[k]? = some (text[k]?.getD 0x20#8) := by
  rw [padRight_of_le h, List.getElem?_append]
  split
  · next hlt => rw [List.getElem?_eq_getElem hlt]; rfl
  · next hge => rw [List.getElem?_replicate, if_pos (by omega), List.getElem?_eq_none (by omega)]; rfl

/-! ## Lines of an image (R168) -/

theorem standingsLine_eq {x : TeamNo} {lastLive : List TeamNo} {k : Nat} (hteam : (s.team x).InRange)
    (hrank : (s.team x).rank.getD 0 < 18) :
    let rank := (s.team x).rank.getD 0
    let score := (s.team x).score
    standingsLine s lastLive x k =
      [if rank < 10 then 0x20#8 else byte (0x30 + rank / 10), byte (0x30 + rank % 10), markerColumn lastLive x k] ++
        padRight 8 (shownName x (s.team x).label) ++
        [scoreColumn score 4, scoreColumn score 3, scoreColumn score 2, scoreColumn score 1, scoreColumn score 0] := by
  obtain ⟨hlow, hhigh, -⟩ := hteam
  simp only [standingsLine, padLeft_digits_rank hrank, padLeft_scoreText hlow hhigh, changeMarker_eq, labelText_eq,
    List.cons_append, List.nil_append]

/-- Lines of sixteen characters, one behind the other. -/
theorem flatten_getElem? {lines : List (List Byte)} (h : ∀ l ∈ lines, l.length = 16) (k : Nat) {c : Nat} (hc : c < 16) :
    lines.flatten[16 * k + c]? = lines[k]?.bind (·[c]?) := by
  induction lines generalizing k with
  | nil => rfl
  | cons l ls ih =>
    have hl : l.length = 16 := h l (List.mem_cons_self ..)
    cases k with
    | zero => rw [List.flatten_cons, List.getElem?_append_left (by omega)]; simp
    | succ k =>
      rw [List.flatten_cons, List.getElem?_append_right (by omega), hl,
        show 16 * (k + 1) + c - 16 = 16 * k + c by omega, ih fun m hm => h m (List.mem_cons_of_mem _ hm)]
      rfl

theorem flatten_length {lines : List (List Byte)} (h : ∀ l ∈ lines, l.length = 16) :
    lines.flatten.length = 16 * lines.length := by
  rw [List.length_flatten, List.map_congr_left h, List.map_const', List.sum_replicate, smul_eq_mul, Nat.mul_comm]

/-- The Standings list at most sixteen teams (R153). -/
theorem StandingsInOrder.length_le (h : StandingsInOrder s) : s.standings.length ≤ 16 := by
  obtain ⟨hnodup, -⟩ := h
  simpa using hnodup.length_le_card

/-- A rank is at most 17 (R154). -/
theorem StandingsInOrder.rank_lt (h : StandingsInOrder s) (x : TeamNo) : (s.team x).rank.getD 0 < 18 := by
  have hlength := h.length_le
  obtain ⟨-, -, -, hrank⟩ := h
  rw [hrank x]
  split
  · have := List.length_filter_le (fun u => decide ((s.team x).score < (s.team u).score)) s.standings
    simp only [Option.getD_some]
    omega
  · exact Nat.zero_lt_succ _

/-- A repaint shows the Standings, line by line (R168, R169). -/
theorem liveImage_shows (hteams : TeamsInRange s) (hstandings : StandingsInOrder s) (lastLive : List TeamNo) :
    ShowsStandings s lastLive (liveImage s lastLive) := by
  let line (p : TeamNo × Nat) : List Byte := standingsLine s lastLive p.1 p.2
  have hline (x : TeamNo) (k : Nat) := standingsLine_eq (lastLive := lastLive) (k := k) (hteams x) (hstandings.rank_lt x)
  have hsixteen : ∀ l ∈ s.standings.zipIdx.map line, l.length = 16 := by
    intro l hl
    obtain ⟨⟨x, k⟩, -, rfl⟩ := List.mem_map.mp hl
    simp only [line, hline x k, List.length_append, padRight_length, List.length_cons, List.length_nil]
  have himage : liveImage s lastLive = padRight 256 (s.standings.zipIdx.map line).flatten := by
    rw [liveImage, List.flatMap_def]
  have hlength := hstandings.length_le
  have hflat := flatten_length hsixteen
  rw [List.length_map, List.length_zipIdx] at hflat
  refine ⟨by rw [himage]; exact padRight_length _ _, fun k hk => ?_⟩
  have hcolumn {c : Nat} (hc : c < 16) : (liveImage s lastLive)[16 * k + c]? =
      some (((s.standings[k]?.map fun x => standingsLine s lastLive x k).bind (·[c]?)).getD 0x20#8) := by
    rw [himage, padRight_getElem? (by omega) (by omega), flatten_getElem? hsixteen k hc]
    simp [line, List.getElem?_map, List.getElem?_zipIdx, Function.comp_def]
  unfold showsLine
  dsimp only
  split
  · next hnone =>
    rw [List.all_eq_true]
    intro c hc
    exact decide_eq_true (by rw [hcolumn (List.mem_range.mp hc), hnone]; rfl)
  · next x hx =>
    have hat {c : Nat} (hc : c < 16) : (liveImage s lastLive)[16 * k + c]? =
        some ((standingsLine s lastLive x k)[c]?.getD 0x20#8) := by
      rw [hcolumn hc, hx]
      rfl
    have hname : (padRight 8 (shownName x (s.team x).label)).length = 8 := padRight_length _ _
    have hlabel : (shownName x (s.team x).label).length ≤ 8 := by
      obtain ⟨-, -, -, hlabel, -⟩ := hteams x
      exact shownName_length x hlabel
    simp only [Bool.and_eq_true, List.all_eq_true, List.mem_range, decide_eq_true_eq, and_assoc]
    refine ⟨?_, ?_, ?_, fun c hc => ?_, fun p hp => ?_⟩
    · rw [hat (by omega), hline]; rfl
    · rw [hat (by omega), hline]; rfl
    · rw [hat (by omega), hline]; rfl
    · rw [hat (by omega), hline, List.getElem?_append_left (by simp [hname]; omega),
        List.getElem?_append_right (by simp), show 3 + c - _ = c by simp, padRight_getElem? hlabel hc]
      rfl
    · rw [hat (by omega), hline, List.getElem?_append_right (by simp [hname]; omega)]
      have : p = 0 ∨ p = 1 ∨ p = 2 ∨ p = 3 ∨ p = 4 := by omega
      rcases this with rfl | rfl | rfl | rfl | rfl <;> simp [hname]

/-- Settles O52: the latch is one write of the board's record, with the started image where one was pending; and each kind
of image holds what its mode shows. -/
theorem transferEndLatches : Obligations.TransferEndLatches := by
  refine ⟨fun b tr s hpowered hflight => ?latch, fun b s => ?content⟩
  case latch =>
    intro d latched
    have hvoid : (tr.kind = .repaint ∧ d.orderVoid = false) = (tr.kind = .repaint ∧ (!d.orderVoid) = true) := by
      rw [Bool.not_eq_true']
    refine ⟨fun hnone => congrArg Host.Outcome.next ?_, fun k hsome => congrArg Host.Outcome.next ?_⟩
    · simp only [transferEnd, hflight, hpowered, if_true, hvoid, d, latched] at hnone ⊢
      simp only [hnone]
    · have hboard : (s.setBoard b latched).board b = latched := State.setBoard_board_same _ _ _
      have hstarted : startImage b k (s.setBoard b latched) = s.setBoard b { latched with
          inFlight := some ((s.setBoard b latched).newTransfer b k), orderVoid := false } := by
        rw [startImage, hboard, State.setBoard_setBoard]
      refine Eq.trans ?_ hstarted
      simp only [transferEnd, hflight, hpowered, if_true, hvoid, d, latched] at hsome ⊢
      simp only [hsome]
  case content =>
    refine ⟨rfl, rfl, fun hteams hstandings => liveImage_shows hteams hstandings _, fun hlength => ?_, rfl⟩
    have himage : messageImage (s.board b).message = (s.board b).message ++ List.replicate 224 0x20#8 := by
      rw [messageImage, padRight_of_le (by omega), hlength]
    simp only [State.newTransfer, himage]

end Sys2Proof.Machine
end

section
/-! PROOFS. STORE RULES and RECALL RULES, and how they complete (R201 to R203). -/

namespace Sys2Proof.Machine

variable {c : Bool} {s t : State}

/-! ## The rules that a recall loads (R203) -/

/-- One of a recall's writes. -/
def recallWrite (m : RuleStore) (s : State) (r : RuleId) : State :=
  writeRule r (clampRule (s.rule Rule.holdUpper) r m.values[r].toNat) s

/-- A rule holds its stored value, clamped under the HOLD_UPPER that stands. -/
def RuleLoaded (m : RuleStore) (s : State) (r : RuleId) : Prop :=
  s.rule r = clampRule (s.rule Rule.holdUpper) r m.values[r].toNat

theorem recallWrite_rule_same (m : RuleStore) (s : State) (r : RuleId) :
    (recallWrite m s r).rule r = clampRule (s.rule Rule.holdUpper) r m.values[r].toNat := by
  rw [recallWrite, writeRule_rule, if_pos rfl]

theorem recallWrite_rule_of_ne (m : RuleStore) (s : State) {r q : RuleId} (hq : q ≠ r)
    (hlower : ¬ (q = Rule.holdLower ∧ r = Rule.holdUpper)) : (recallWrite m s r).rule q = s.rule q := by
  rw [recallWrite, writeRule_rule, if_neg hq, if_neg fun h => hlower ⟨h.1, h.2.1⟩]

/-- A write loads its own rule. -/
theorem ruleLoaded_write (m : RuleStore) (s : State) (r : RuleId) : RuleLoaded m (recallWrite m s r) r := by
  rw [RuleLoaded, recallWrite_rule_same]
  by_cases hlower : r = Rule.holdLower
  · have hne : Rule.holdUpper ≠ r := by rw [hlower]; decide
    rw [recallWrite_rule_of_ne m s hne fun h => absurd h.1 (by decide)]
  · exact clampRule_of_ne hlower _ _ _

/-- A write leaves a loaded rule loaded, but HOLD_UPPER's leaves HOLD_LOWER to its own write. -/
theorem RuleLoaded.write {m : RuleStore} {r q : RuleId} (h : RuleLoaded m s q) (hq : q ≠ r)
    (hlower : ¬ (q = Rule.holdLower ∧ r = Rule.holdUpper)) : RuleLoaded m (recallWrite m s r) q := by
  rw [RuleLoaded, recallWrite_rule_of_ne m s hq hlower, h]
  by_cases hq' : q = Rule.holdLower
  · have hne : Rule.holdUpper ≠ r := fun e => hlower ⟨hq', e.symm⟩
    rw [recallWrite_rule_of_ne m s hne fun h => absurd h.1 (by decide)]
  · exact clampRule_of_ne hq' _ _ _

/-- Writes in ascending order to the highest id load every rule whose id is at or above the first of them. -/
theorem recallWrites_loads (m : RuleStore) {ids : List RuleId} (hsorted : ids.Pairwise (· < ·))
    (hupward : ∀ r ∈ ids, ∀ q, r < q → q ∈ ids) (hs : ∀ r, r ∉ ids → RuleLoaded m s r) (r : RuleId) :
    RuleLoaded m (ids.foldl (recallWrite m) s) r := by
  induction ids generalizing s with
  | nil => exact hs r (List.not_mem_nil)
  | cons r₀ ids ih =>
    obtain ⟨hfirst, hrest⟩ := List.pairwise_cons.mp hsorted
    refine ih hrest (fun q hq p hp => ?_) fun q hq => ?_
    · rcases List.mem_cons.mp (hupward q (List.mem_cons_of_mem _ hq) p hp) with rfl | hmem
      · exact absurd (hfirst q hq) (lt_asymm hp)
      · exact hmem
    · by_cases heq : q = r₀
      · rw [heq]; exact ruleLoaded_write m s r₀
      · have hnot : q ∉ r₀ :: ids := fun h => (List.mem_cons.mp h).elim heq hq
        refine (hs q hnot).write heq ?_
        rintro ⟨rfl, rfl⟩
        exact hnot (hupward _ (List.mem_cons_self ..) _ (by decide))

theorem recallWrites_rule (m : RuleStore) (s : State) (r : RuleId) :
    (recallWrites m s).rule r = clampRule ((recallWrites m s).rule Rule.holdUpper) r m.values[r].toNat :=
  recallWrites_loads m (ids := List.finRange 26) (List.pairwise_lt_finRange 26) (fun _ _ q _ => List.mem_finRange q)
    (fun q hq => absurd (List.mem_finRange q) hq) r

/-! ## Start and completion -/

/-- A taken RECALL RULES stays in process, with no answer placed (R203). -/
theorem exec_recallRules (hs : PortReady c s) (hfree : s.storing = none) (hidle : s.roundActive = false) :
    exec (.recallRules c) s = .next { received c .recallRules s with recalling := true, inProcess := some c } := by
  have hserve : serve (written c .recallRules s).consoleLost .recallRules (requestTaken (written c .recallRules s)) =
      ({ received c .recallRules s with recalling := true }, none) := by
    have hrefusal : recallRefusal (requestTaken (written c .recallRules s)) = none := by
      have h : recallRefusal (received c .recallRules s) = none := by
        simp [recallRefusal, received_storing, hfree, hidle]
      exact h
    simp only [serve, hrefusal]
    rfl
  have hsent : sendRequest c .recallRules s = _ := (sendRequest_of_ready rfl hs).trans (takeValid_of_recall hserve)
  exact congrArg Host.Outcome.next hsent

/-- A completion with no request waiting places its answer and ends there. -/
theorem recallComplete_eq (hrecalling : s.recalling = true) (hprocess : s.inProcess = some c) (hempty : s.requests = [])
    {status : Status} (hfinish : finishRecall { s with recalling := false } = (t, status))
    (hrequests : t.requests = s.requests) :
    exec .recallComplete s = .next (placeAnswer c status.bare t) := by
  have hplaced : takeRequest (placeAnswer c status.bare t) = placeAnswer c status.bare t :=
    takeRequest_of_empty (hrequests.trans hempty)
  have hcomplete : recallComplete s = takeRequest (placeAnswer c status.bare t) := by
    unfold recallComplete
    split
    · next flagged hflagged =>
      obtain rfl : c = flagged := Option.some.inj (hprocess.symm.trans hflagged)
      rw [if_pos hrecalling, hfinish]
    · next hnone => rw [hprocess] at hnone; cases hnone
  exact congrArg Host.Outcome.next (hcomplete.trans hplaced)

/-- Settles O56. -/
theorem storeAndRecall : Obligations.StoreAndRecall := by
  refine ⟨fun c s hs hfree hidle => ⟨?store, exec_recallRules hs hfree hidle⟩,
    fun c values s => ⟨fun hstoring => ?stored, fun hrecalling hprocess hempty hbad => ?bad,
      fun hrecalling hprocess hempty hgood => ?good⟩⟩
  case store =>
    have hserve : serveStoreRules (received c .storeRules s) =
        ({ received c .storeRules s with storing := some (s.rules.map fun v => BitVec.ofNat 24 v) }, Status.done.bare) := by
      simp only [serveStoreRules, received_storing, hfree, received_roundActive, hidle, snapshot, received_rules]
      rfl
    exact exec_of_served (t := { received c .storeRules s with storing := some (s.rules.map fun v => BitVec.ofNat 24 v) })
      rfl rfl hs (by rw [serve, hserve]; rfl) (received_inProcess _ _ _)
  case stored =>
    refine ⟨{ values, check := storeCheck values }, rfl, by simp [RuleStore.good], ?_⟩
    show Host.Outcome.next (storeComplete s) = _
    rw [storeComplete, hstoring]
    rfl
  case bad =>
    have hfinish : finishRecall { s with recalling := false } =
        (({ s with recalling := false } : State).setNotice .rulesDefaulted, .state) := if_neg (by rw [hbad]; decide)
    rw [recallComplete_eq hrecalling hprocess hempty hfinish rfl]
    rfl
  case good =>
    let u : State := { s with recalling := false }
    have houtside := recallWrites_outside s.store u
    have hround : (recallWrites s.store u).round = u.round := by
      have e := congrArg State.round houtside; exact e
    have hfinish : finishRecall u = (kickLines (recallWrites s.store u), .done) := by
      rw [← endEvent_of_round hround]
      exact if_pos hgood
    have hrequests : (kickLines (recallWrites s.store u)).requests = s.requests := by
      have e := congrArg State.requests houtside; exact e
    have hrule := recallWrites_rule s.store u
    have hexec := recallComplete_eq hrecalling hprocess hempty hfinish hrequests
    generalize recallWrites s.store u = w at houtside hrule hexec
    refine ⟨_, hexec, ?_, rfl, hrule, ?_, ?_⟩
    · have e := congrArg State.recalling houtside; exact e
    · have e := congrArg (fun x : State => x.answers ++ [answerBytes x.targetAddress c Status.done.bare]) houtside
      exact e
    · have e := congrArg (fun x : State => { x with
        rules := s.rules, lines := s.lines, boards := s.boards, watchdog := s.watchdog, answers := s.answers
        recalling := s.recalling, inProcess := s.inProcess }) houtside
      exact e

end Sys2Proof.Machine
end

section
/-! PROOFS. The requests that write one team's record and hand it to the Sorter (R11, R13, R151, R152). -/

namespace Sys2Proof.Machine

variable {c : Bool} {s : State} {t : TeamNo}

/-! ## A record written, with its standings change (R155, R156) -/

/-- A team's record written, and a standings change where one is due. -/
def recordWritten (due : Prop) [Decidable due] (t : TeamNo) (x : Team) (u : State) : State :=
  if due then updateStandings (u.setTeam t x) else u.setTeam t x

section
variable (due : Prop) [Decidable due] (t : TeamNo) (x : Team) (u : State)

theorem recordWritten_team (y : TeamNo) : ∃ rank,
    (recordWritten due t x u).team y = { (if y = t then x else u.team y) with rank := rank } := by
  unfold recordWritten
  split
  · exact ⟨_, by rw [updateStandings_team, State.setTeam_team]⟩
  · exact ⟨_, State.setTeam_team u t y x⟩

theorem recordWritten_same :
    { (recordWritten due t x u).team t with rank := none } = { x with rank := none } := by
  obtain ⟨rank, h⟩ := recordWritten_team due t x u t
  rw [h, if_pos rfl]

theorem recordWritten_other {y : TeamNo} (hy : y ≠ t) :
    { (recordWritten due t x u).team y with rank := none } = { u.team y with rank := none } := by
  obtain ⟨rank, h⟩ := recordWritten_team due t x u y
  rw [h, if_neg hy]

/-- What the write does to Standings and boards. -/
theorem recordWritten_standings (hrank : ¬ due → x.rank = (u.team t).rank) :
    if due then
      StandingsInOrder (recordWritten due t x u) ∧ ∀ b, BoardTookChange u (recordWritten due t x u) b
    else
      (recordWritten due t x u).boards = u.boards ∧ (recordWritten due t x u).standings = u.standings ∧
        ∀ y, ((recordWritten due t x u).team y).rank = (u.team y).rank := by
  unfold recordWritten
  split
  · exact ⟨updateStandings_inOrder _, fun b => (updateStandings_took _ b).congr_before rfl⟩
  · next hdue =>
    refine ⟨rfl, rfl, fun y => ?_⟩
    rw [State.setTeam_team]
    split
    · next h => rw [h, hrank hdue]
    · rfl

theorem recordWritten_frame :
    { recordWritten due t x u with teams := u.teams, standings := u.standings, boards := u.boards } = u := by
  unfold recordWritten
  split
  · have e := congrArg (fun y : State => { y with teams := u.teams, standings := u.standings, boards := u.boards })
      (updateStandings_frame (u.setTeam t x))
    exact e
  · rfl

end

/-- What a request that writes one record leaves, read against the records before. -/
theorem exec_of_recordWritten {due : Prop} [Decidable due] {i : Instr} {r : Request} {x : Team} {status : Status}
    {data : List Byte} (hi : i.request? = some (c, r)) (hw : r.wf = true) (hs : PortReady c s)
    (hserve : serve s.consoleLost r (received c r s) = (recordWritten due t x (received c r s), some { status, data }))
    (hrank : ¬ due → x.rank = (s.team t).rank) :
    ∃ w, exec i s = .next w ∧ { w.team t with rank := none } = { x with rank := none } ∧
      (∀ y, y ≠ t → { w.team y with rank := none } = { s.team y with rank := none }) ∧
      (if due then StandingsInOrder w ∧ ∀ b, BoardTookChange (received c r s) w b
        else w.boards = (received c r s).boards ∧ w.standings = s.standings ∧ ∀ y, (w.team y).rank = (s.team y).rank) ∧
      { w with teams := (received c r s).teams, standings := (received c r s).standings
               boards := (received c r s).boards } = answered c status data (received c r s) := by
  have hteam (y : TeamNo) : (received c r s).team y = s.team y := received_team c r s y
  have hsame := recordWritten_same due t x (received c r s)
  have hother := fun y (hy : y ≠ t) => recordWritten_other due t x (received c r s) hy
  have hstandings := recordWritten_standings due t x (received c r s) (by rw [hteam]; exact hrank)
  have hframe := recordWritten_frame due t x (received c r s)
  simp only [hteam, received_standings] at hother hstandings
  have hprocess : (recordWritten due t x (received c r s)).inProcess = s.inProcess := by
    have e := congrArg State.inProcess hframe
    exact e.trans (received_inProcess _ _ _)
  generalize recordWritten due t x (received c r s) = w at *
  have hexec := exec_of_served (t := w) hi hw hs hserve hprocess
  generalize received c r s = u at *
  refine ⟨_, hexec, hsame, hother, ?_, congrArg (answered c status data) hframe⟩
  split
  · next h => rw [if_pos h] at hstandings; exact hstandings
  · next h => rw [if_neg h] at hstandings; exact hstandings

/-- The clamp of a score, written out. -/
theorem clampScore_eq (x : Int) : clampScore x = if x < -9999 then -9999 else if 99999 < x then 99999 else x := rfl

theorem clampedIf_score (wanted : Int) :
    clampedIf (clampScore wanted ≠ wanted) = if clampScore wanted = wanted then .done else .clamped := by
  unfold clampedIf
  by_cases h : clampScore wanted = wanted <;> simp [h]

/-! ## Enrolment and renaming (R11, R13) -/

/-- Settles O26: the new record is written whole and handed to the Sorter. -/
theorem enrolListsTheTeam : Obligations.EnrolListsTheTeam := by
  intro c t score label s hs hlabel u start
  have htext : decide (label.length ≤ 8) = true := decide_eq_true hlabel
  refine ⟨fun hstate => ?refused, fun hstate => ?taken⟩
  case refused =>
    have hserve : serveEnrolTeam (byte t.val) score label u = (u, Status.state.bare) := by
      simp only [serveEnrolTeam, teamArg_byte, u, received_team, if_neg hstate]
    exact exec_of_refusal (i := .enrolTeam c (byte t.val) score label) rfl htext hs (by simp only [serve]; rw [hserve]) _ rfl
  case taken =>
    let x : Team := { Team.initial with state := .active, label := label.map printable, score := start }
    have hserve : serveEnrolTeam (byte t.val) score label u =
        (recordWritten True t x u, (if start = score.toInt then Status.done else .clamped).bare) := by
      simp only [serveEnrolTeam, teamArg_byte, u, received_team, if_pos hstate, clampedIf_score]
      rfl
    obtain ⟨w, hexec, hsame, hother, hstandings, hframe⟩ := exec_of_recordWritten (c := c)
      (i := .enrolTeam c (byte t.val) score label) (r := .enrolTeam (byte t.val) score label) (due := True) (x := x)
      (status := if start = score.toInt then .done else .clamped) (data := []) rfl htext hs
      (by simp only [serve]; rw [hserve]; rfl) fun h => absurd trivial h
    rw [if_pos trivial] at hstandings
    have hanswers := congrArg State.answers hframe
    have hrest := congrArg (fun y : State => { y with answers := u.answers }) hframe
    have hready : u.answers = s.answers := received_answers _ _ _
    have haddress : u.targetAddress = s.targetAddress := received_targetAddress _ _ _
    refine ⟨w, hexec, hsame, hother, hstandings.1, hstandings.2, ?_, hrest⟩
    rw [← hready, ← haddress]
    exact hanswers

/-- Settles O27: the label is written, and a standings change follows where a listed team's label differs. -/
theorem renameWritesTheLabel : Obligations.RenameWritesTheLabel := by
  intro c t label s hs hlabel u
  have htext : decide (label.length ≤ 8) = true := decide_eq_true hlabel
  refine ⟨fun hstate => ?refused, fun hstate => ?taken⟩
  case refused =>
    have hserve : serveRenameTeam (byte t.val) label u = (u, Status.state.bare) := by
      simp only [serveRenameTeam, teamArg_byte, u, received_team, if_pos hstate]
    exact exec_of_refusal (i := .renameTeam c (byte t.val) label) rfl htext hs (by simp only [serve]; rw [hserve]) _ rfl
  case taken =>
    have hserve : serveRenameTeam (byte t.val) label u =
        (recordWritten ((s.team t).state.listed ∧ (s.team t).label ≠ label.map printable) t
          { s.team t with label := label.map printable } u, Status.done.bare) := by
      simp only [serveRenameTeam, teamArg_byte, u, received_team, if_neg hstate, renameTeam]
      rfl
    exact exec_of_recordWritten (i := .renameTeam c (byte t.val) label)
      (due := (s.team t).state.listed ∧ (s.team t).label ≠ label.map printable)
      (x := { s.team t with label := label.map printable }) (status := .done) (data := []) rfl htext hs
      (by simp only [serve]; rw [hserve]; rfl) fun _ => rfl

/-! ## Console scores (R151, R152) -/

/-- A console change of a score writes the clamped score, a standings change when a listed team's differs. -/
theorem changeScore_eq (t : TeamNo) (wanted : Int) (u : State) :
    changeScore t wanted u =
      (recordWritten ((u.team t).state.listed ∧ clampScore wanted ≠ (u.team t).score) t
        { u.team t with score := clampScore wanted } u,
        { status := if clampScore wanted = wanted then .done else .clamped, data := le24Int (clampScore wanted) }) := by
  have hchanged : (scoreChanged (u.team t) { u.team t with score := clampScore wanted } = true) =
      ((u.team t).state.listed = true ∧ clampScore wanted ≠ (u.team t).score) := by
    simp only [scoreChanged, Bool.and_eq_true, decide_eq_true_eq, ne_comm]
  have hwrite : writeScore t { u.team t with score := clampScore wanted } u = recordWritten _ t _ u :=
    if_congr (iff_of_eq hchanged) rfl rfl
  rw [changeScore, clampedIf_score, hwrite]

/-- Settles O31. -/
theorem consoleScoresAreClamped : Obligations.ConsoleScoresAreClamped := by
  intro c t v s hs hstate clamp scored
  have hscored {i : Instr} {r : Request} {wanted : Int} (hi : i.request? = some (c, r)) (hw : r.wf = true)
      (hserve : serve s.consoleLost r (received c r s) =
        ((changeScore t wanted (received c r s)).1, some (changeScore t wanted (received c r s)).2)) :
      scored i r wanted := by
    rw [changeScore_eq, received_team] at hserve
    exact exec_of_recordWritten (due := (s.team t).state.listed ∧ clamp wanted ≠ (s.team t).score)
      (x := { s.team t with score := clamp wanted }) hi hw hs hserve fun _ => rfl
  refine ⟨hscored rfl rfl ?adjusted, hscored rfl rfl ?set⟩
  case adjusted => simp only [serve, serveAdjustScore, teamArg_byte, received_team, if_neg hstate]
  case set => simp only [serve, serveSetScore, teamArg_byte, received_team, if_neg hstate]

end Sys2Proof.Machine
end

section
/-! PROOFS. RESET SESSION (R205, R57, R61, R172). -/

namespace Sys2Proof.Machine

variable {c : Bool} {s u w : State}

/-- What RESET SESSION leaves of an enabled line once its transmitter has begun (R57, R60, R61). -/
theorem Line.sessionReset_kick {l : Line} (hmarks : (l.entries.filter (·.isMark)).length ≤ 1)
    (hbusy : l.sending = none → l.outboundCount = 0) :
    let flushed : Line := { l with queue := [], held := false, rehold := 0 }
    l.sessionReset.kick =
      if l.sending.isSome then
        { flushed with entries := [.mark .closed], flow := if l.held then some .go else l.flow }
      else if l.held then { flushed with entries := [.mark .closed], sending := some (.flow .go) }
      else { flushed with sending := some (.mark .closed) } := by
  intro flushed
  have hmark := foldEntry_marks .closed hmarks fun e he => (List.mem_filter.mp he).2
  cases hsending : l.sending with
  | some f =>
    cases hheld : l.held <;>
      simp [flushed, Line.sessionReset, Line.release, Line.queueFlow, Line.dropLamps, Line.queueMark, Line.kick, hmark,
        hsending, hheld]
  | none =>
    obtain ⟨hentries, hflow⟩ : l.entries = [] ∧ l.flow = none := by simpa [Line.outboundCount] using hbusy hsending
    cases hheld : l.held <;>
      simp [flushed, Line.sessionReset, Line.release, Line.queueFlow, Line.dropLamps, Line.queueMark, Line.kick,
        foldEntry, OutEntry.frame, hsending, hheld, hentries, hflow]

/-- The state that RESET SESSION leaves before its answer. -/
def sessionCleared (u : State) : State := endEvent u (resetSession u)

/-- RESET SESSION leaves the round IDLE, so that no round closes with it. -/
theorem sessionCleared_line (u : State) (n : LineNo) :
    (sessionCleared u).line n = (if u.lineEnabled n then (u.line n).sessionReset else u.line n).kick := by
  have hround : (resetSession u).round = Round.initial := by
    have e := congrArg State.round (resetSession_spec u); exact e
  have hline : (resetSession u).line n = if u.lineEnabled n then (u.line n).sessionReset else u.line n := by
    have e := congrArg (State.line · n) (resetSession_spec u)
    exact e.trans (by simp [State.line, State.outsideBoards])
  have hopen : ¬ (u.roundActive = true ∧ (resetSession u).round.state = .closed ∧
      (resetSession u).lineEnabled n = true) := fun h => by rw [hround] at h; exact absurd h.2.1 (by decide)
  rw [sessionCleared, endEvent_line, if_neg hopen, hline]

/-- RESET SESSION but for lines and boards (R205). -/
theorem sessionCleared_spec (u : State) :
    { sessionCleared u with lines := u.lines, boards := u.boards } = { u with
      teams := u.teams.map fun _ => Team.initial
      seats := u.seats.map fun x => { x with team := none, locked := false, lamp := .idle }
      round := Round.initial, clock := Clock.initial, ladder := [], sheet := Vector.replicate 128 none
      standings := [], notices := 0#24, watchdog := .unarmed, consoleLost := false } := by
  have hended := congrArg (fun x : State => { x with lines := u.lines, boards := u.boards })
    (endEvent_frame u (resetSession u))
  have hreset := congrArg (fun x : State => { x with lines := u.lines, boards := u.boards }) (resetSession_spec u)
  exact Eq.trans hended hreset

theorem sessionCleared_was (u : State) (b : BoardNo) : BoardWasReset u (sessionCleared u) b :=
  (congrArg (BoardWasReset u · b) (endEvent_frame u (resetSession u))).mpr (resetSession_was u b)

/-- Settles O57. -/
theorem resetSessionClearsTheContest : Obligations.ResetSessionClearsTheContest := by
  intro c s hs hlines
  obtain ⟨hphase, -⟩ := id hs
  obtain ⟨hbounded, hbusy⟩ := hlines
  have hserve : serve s.consoleLost .resetSession (received c .resetSession s) =
      (sessionCleared (received c .resetSession s), some Status.done.bare) := rfl
  have hframe := received_frame c .resetSession s
  have hspec := sessionCleared_spec (received c .resetSession s)
  have hwas := sessionCleared_was (received c .resetSession s)
  have hline (n : LineNo) : (sessionCleared (received c .resetSession s)).line n =
      (if s.lineEnabled n then (s.line n).sessionReset else s.line n).kick := by
    rw [sessionCleared_line, received_lineEnabled, received_line]
  have hseat (i : SeatNo) : (received c .resetSession s).seat i = s.seat i := received_seat _ _ _ i
  have hprocess : (sessionCleared (received c .resetSession s)).inProcess = s.inProcess := by
    have e := congrArg State.inProcess hspec
    exact e.trans (received_inProcess _ _ _)
  have hexec := exec_of_served (i := .resetSession c) (t := sessionCleared (received c .resetSession s)) rfl rfl hs hserve
    hprocess
  generalize received c .resetSession s = u at *
  generalize sessionCleared u = w at *
  have hread {α : Type} (f : State → α) := congrArg f hspec
  refine ⟨_, hexec, fun t => ?_, fun i => ?_, hread State.round, hread State.clock, hread State.ladder, fun i => ?_,
    hread State.standings, hread State.notices, hread State.watchdog, hread State.consoleLost, fun n => ?_, hwas, ?_, ?_⟩
  · exact (hread (State.team · t)).trans (by simp [State.team])
  · rw [← hseat i]
    exact (hread (State.seat · i)).trans (by simp [State.seat])
  · exact (hread (State.entry · i)).trans (by simp [State.entry])
  · refine (hline n).trans ?_
    have hpowered := hbusy (by rw [State.powered, hphase]; rfl) n
    dsimp only
    split
    · obtain ⟨-, -, -, hmarks, -⟩ := hbounded n
      exact Line.sessionReset_kick hmarks hpowered
    · exact Line.kick_of_busy hpowered
  · have e := hread fun x => x.answers ++ [answerBytes x.targetAddress c Status.done.bare]
    have e' := congrArg (fun x : State => x.answers ++ [answerBytes x.targetAddress c Status.done.bare]) hframe
    exact e.trans e'
  · let restore (x : State) : State := { x with
      teams := s.teams, seats := s.seats, lines := s.lines, clock := s.clock, round := s.round, ladder := s.ladder
      sheet := s.sheet, standings := s.standings, boards := s.boards, notices := s.notices, answers := s.answers
      bus := s.bus, watchdog := s.watchdog, consoleLost := s.consoleLost }
    have e := congrArg restore hspec
    have e' := congrArg restore hframe
    exact Eq.trans e e'

end Sys2Proof.Machine
end

section
/-! PROOFS. Lamp writes at seats and lines, and the rounds that are scored as they close (R85 to R90, R111, R145 to R149). -/

namespace Sys2Proof.Machine

variable {c : Bool} {s t u w : State}

/-! ## Lamp writes (R32) -/

theorem lampWrite_sending (i : SeatNo) (v : Lamp) (s : State) (n : LineNo) :
    ((lampWrite i v s).line n).sending = (s.line n).sending := by
  rw [lampWrite_line]
  split <;> rfl

/-- One seat's turn in an event that writes several lamps. -/
def lampTurn (value : SeatNo → Option Lamp) (s : State) (i : SeatNo) : State :=
  match value i with
  | some v => lampWrite i v s
  | none => s

theorem lampTurn_seat (value : SeatNo → Option Lamp) (s : State) (i j : SeatNo) :
    (lampTurn value s i).seat j =
      if j = i then { s.seat j with lamp := (value j).getD (s.seat j).lamp } else s.seat j := by
  unfold lampTurn
  by_cases h : j = i
  · subst h
    rw [if_pos rfl]
    split
    · next v hv => rw [lampWrite_seat, if_pos rfl, hv]; rfl
    · next hv => rw [hv]; rfl
  · rw [if_neg h]
    split
    · rw [lampWrite_seat, if_neg h]
    · rfl

theorem lampTurns_seat (value : SeatNo → Option Lamp) (seats : List SeatNo) (s : State) (j : SeatNo) :
    (seats.foldl (lampTurn value) s).seat j =
      if j ∈ seats then { s.seat j with lamp := (value j).getD (s.seat j).lamp } else s.seat j := by
  induction seats generalizing s with
  | nil => rfl
  | cons i seats ih =>
    rw [List.foldl_cons, ih, lampTurn_seat]
    by_cases hi : j = i
    · subst hi
      have hagain : (value j).getD ((value j).getD (s.seat j).lamp) = (value j).getD (s.seat j).lamp := by
        cases value j <;> rfl
      simp [hagain]
    · simp [hi]

theorem lampWrites_seat (value : SeatNo → Option Lamp) (s : State) (j : SeatNo) :
    (lampWrites value s).seat j = { s.seat j with lamp := (value j).getD (s.seat j).lamp } := by
  have h := lampTurns_seat value allSeats s j
  rw [if_pos (show j ∈ allSeats from List.mem_finRange j)] at h
  exact h

theorem lampWrites_sending (value : SeatNo → Option Lamp) (s : State) (n : LineNo) :
    ((lampWrites value s).line n).sending = (s.line n).sending := by
  refine foldl_keeps (fun s : State => (s.line n).sending) (lampTurn value) (fun s i => ?_) allSeats s
  unfold lampTurn
  split
  · exact lampWrite_sending i _ s n
  · rfl

/-! ## POLL awards, written out (R145 to R149) -/

theorem seatPoints_eq (s : State) (key : Nat) : s.seatPoints key = pollPoints s key := by
  funext i
  unfold State.seatPoints pollPoints
  cases s.entry i with
  | none => rfl
  | some e =>
    have hwindow : s.window - min e.offset s.window = s.window - e.offset := by omega
    simp only [entryPoints, hwindow]
    by_cases hkey : e.choice = key
    · simp [hkey]
    · simp [hkey]

theorem roundedMean_eq (sum : Int) (d : Nat) :
    roundedMean sum d =
      if (d : Int) = 0 then 0 else if 0 ≤ sum then (2 * sum + d) / (2 * d) else -((2 * -sum + d) / (2 * d)) := by
  unfold roundedMean
  by_cases hd : d = 0
  · simp [hd]
  · have hd' : ¬ ((d : Int) = 0) := by exact_mod_cast hd
    rw [if_neg hd, if_neg hd']
    by_cases hsum : 0 ≤ sum
    · rw [if_pos hsum, if_pos hsum]; push_cast; rw [abs_of_nonneg hsum]
    · rw [if_neg hsum, if_neg hsum]; push_cast; rw [abs_of_neg (by omega)]

theorem pollAward_eq (total : Int) (streak cap : Nat) :
    pollAward total streak cap =
      if 0 < total then total * (4 + min streak cap : Nat) / 4 else total := by
  unfold pollAward multiplied quarters
  by_cases h : 0 < total
  · rw [if_pos h, if_pos h]; push_cast; rw [abs_of_pos h]
  · rw [if_neg h, if_neg h]

/-- POLL scoring writes the record that R145 to R149 give, and the close clears its lock. -/
theorem polledTeam_eq (s : State) (key : Nat) (x : TeamNo) (rank : Option Nat) :
    { s.polledTeam key x with rank := rank, locked := false } = { polledRecord s key x with rank := rank } := by
  have hsum : s.pointSum key x =
      (((List.finRange 128).filter fun i => (s.seat i).team = some x).map (pollPoints s key)).sum := by
    rw [State.pointSum, seatPoints_eq]; rfl
  have hdivisor : s.divisor x = (((List.finRange 128).filter fun i => (s.seat i).team = some x).filter
      fun i => (s.seat i).presence = .present ∨ (s.entry i).isSome).length := by
    simp only [State.divisor, State.members, allSeats, Bool.decide_or, Bool.decide_eq_true]
  have htotal := roundedMean_eq (s.pointSum key x) (s.divisor x)
  unfold State.polledTeam polledRecord
  dsimp only
  rw [← hsum, ← hdivisor, ← htotal]
  split
  · simp only [Team.award, pollAward_eq, State.teamTotal, clampScore_eq]
    by_cases hpositive : 0 < roundedMean (s.pointSum key x) (s.divisor x)
    · simp only [hpositive, decide_true, if_true]
    · simp only [hpositive, decide_false, if_false, Bool.false_eq_true]
  · rfl

theorem polledRecord_congr (hcopy : t.copy = s.copy) (hwindow : t.window = s.window) (hteam : ∀ x, t.team x = s.team x)
    (hseat : ∀ i, t.seat i = s.seat i) (hentry : ∀ i, t.entry i = s.entry i) (key : Nat) (x : TeamNo) :
    polledRecord t key x = polledRecord s key x := by
  have hpoints : pollPoints t key = pollPoints s key := by
    funext i
    simp only [pollPoints, hcopy, hwindow, hentry]
  simp only [polledRecord, hpoints, hcopy, hteam, hseat, hentry]

/-- A POLL round scored as it closes: every team's record, and what the close leaves of seats and sheet (R87, R89, R93). -/
theorem scoreAndClose_spec (before : State) (key : Nat) (hround : u.round = before.round)
    (hcount : u.clock.count = before.clock.count) (hline : ∀ n, u.line n = before.line n)
    (henabled : ∀ n, u.lineEnabled n = before.lineEnabled n) :
    let w := endEvent before (scoreAndClose key u)
    RoundClosed before w .scored ∧
      (∀ x, { w.team x with rank := none } = { polledRecord u key x with rank := none }) ∧
      (∀ i, { w.seat i with locked := false } = { u.seat i with locked := false }) ∧ w.sheet = u.sheet ∧
      ContestKeeps u w := by
  intro w
  have hclosed : RoundClosed before w .scored := roundClosed_of_close before (u := scorePoll key u)
    (by rw [scorePoll_round, hround]) (by rw [scorePoll_clock, hcount]) (fun n => by rw [scorePoll_line, hline])
    (fun n => by rw [State.lineEnabled, State.rule, scorePoll_rules]; exact henabled n) .scored
  refine ⟨hclosed, fun x => ?_, fun i => ?_, ?_, ?_⟩
  · obtain ⟨rank, hx⟩ := scorePoll_team u key x
    have hrecord : w.team x = { u.polledTeam key x with rank := rank, locked := false } := by
      rw [endEvent_team, scoreAndClose, closeRound_team, hx]
    rw [hrecord, polledTeam_eq]
  · rw [endEvent_seat, scoreAndClose, closeRound_seat, scorePoll_seat]
  · rw [endEvent_sheet, scoreAndClose, closeRound_sheet, scorePoll_sheet]
  · exact ((ContestWrite.poll key u).keeps.trans (ContestWrite.close .scored _).keeps).trans (endEvent_keeps before _)

end Sys2Proof.Machine
end

section
/-! PROOFS. The window end, the settling end, POST KEY and JUDGE RIGHT (R82, R85, R87, R89, R111). -/

namespace Sys2Proof.Machine

variable {c : Bool} {s t u w : State}

/-! ## The window end and the settling end (R70, R71) -/

theorem due_of_le {clock : Clock} {target : Option Nat} {x : Nat} (hrunning : clock.running = true)
    (htarget : target = some x) (hle : x ≤ clock.count) : clock.due target = true := by
  simp [Clock.due, hrunning, htarget, hle]

/-- An event that closes no round ends with the transmitters alone. -/
theorem endEvent_of_open (before : State) (h : t.round.state ≠ .closed) : endEvent before t = kickLines t := by
  unfold endEvent
  rw [if_neg fun hclosed => h hclosed.2]

theorem endEvent_of_open_busy (before : State) (h : t.round.state ≠ .closed) (hbusy : TransmittersBusy t) :
    endEvent before t = t := by rw [endEvent_of_open before h, kickLines_of_busy hbusy]

/-- A settling end due in SETTLING settles the round, its compare disarmed. -/
theorem exec_settlingEnd {target : Nat} (hpowered : s.powered = true) (hrunning : s.clock.running = true)
    (hstate : s.round.state = .settling) (htarget : s.clock.settlingEnd = some target) (hle : target ≤ s.clock.count) :
    exec .settlingEnd s = .next (endEvent s (settle { s with clock := { s.clock with settlingEnd := none } })) :=
  congrArg Host.Outcome.next (if_pos ⟨hpowered, due_of_le hrunning htarget hle, hstate⟩)

/-- Settles O45. -/
theorem windowAndSettlingEnd : Obligations.WindowAndSettlingEnd := by
  refine ⟨fun target body s hpowered hrunning hstate hbody htarget hle => ?window,
    fun target s hpowered hrunning hstate htarget hle hbusy => ?settling⟩
  case window =>
    have hwindow : s.window = body.window := by rw [State.window, hbody]; rfl
    refine congrArg Host.Outcome.next
      ((if_pos ⟨hpowered, due_of_le hrunning htarget hle, hstate⟩ : windowEnd s = _).trans ?_)
    rw [enterSettling, hwindow, hbody]
    rfl
  case settling =>
    intro disarmed
    let u : State := { s with clock := disarmed }
    have hexec : exec .settlingEnd s = .next (endEvent s (settle u)) :=
      exec_settlingEnd hpowered hrunning hstate htarget hle
    refine ⟨fun hkind hclaims => ?drains, fun hkind hempty => ?closes, fun choices hkind => ?waits,
      fun choices key hkind => ?scores⟩
    case drains =>
      have hsettled : settle u = { u with round := { s.round with state := .draining } } := by
        have hkind : u.kind = some .buzz := hkind
        unfold settle
        rw [hkind]
        exact if_neg (by rw [List.isEmpty_iff]; exact hclaims)
      rw [hexec, hsettled]
      exact congrArg Host.Outcome.next (endEvent_of_open_busy s (fun h => nomatch h) hbusy)
    case closes =>
      have hsettled : settle u = closeRound .noWinner u := by
        have hkind : u.kind = some .buzz := hkind
        unfold settle
        rw [hkind]
        exact if_pos (by rw [List.isEmpty_iff]; exact hempty)
      rw [hsettled] at hexec
      have hkeeps : ContestKeeps u (endEvent s (closeRound .noWinner u)) :=
        (ContestWrite.close .noWinner u).keeps.trans (endEvent_keeps s _)
      refine ⟨_, hexec, roundClosed_of_close s rfl rfl (fun _ => rfl) (fun _ => rfl) .noWinner, fun x => ?_, fun i => ?_,
        ?_, ?_, ContestFrame.keeps (u := u) (.refl s) hkeeps⟩
      · rw [endEvent_team, closeRound_team]; rfl
      · rw [endEvent_seat, closeRound_seat]; rfl
      · rw [endEvent_standings, closeRound_standings]
      · rw [endEvent_sheet, closeRound_sheet]
    case waits =>
      have hsettled : settle u = enterKeywait u := by
        have hkind : u.kind = some (.poll choices none) := hkind
        unfold settle
        rw [hkind]
      rw [hexec, hsettled]
      exact congrArg Host.Outcome.next (endEvent_of_open_busy s (fun h => nomatch h) hbusy)
    case scores =>
      have hsettled : settle u = scoreAndClose key u := by
        have hkind : u.kind = some (.poll choices (some key)) := hkind
        unfold settle
        rw [hkind]
      rw [hsettled] at hexec
      obtain ⟨hclosed, hteam, hseat, hsheet, hkeeps⟩ :=
        scoreAndClose_spec (u := u) s key rfl rfl (fun _ => rfl) fun _ => rfl
      generalize endEvent s (scoreAndClose key u) = w at *
      exact ⟨w, hexec, hclosed, hsheet, hseat, ContestFrame.keeps (u := u) (.refl s) hkeeps, hteam⟩

/-! ## POST KEY (R89) -/

/-- A key that the round has not, in the states that take one. -/
theorem servePostKey_of_taken {key choices : Nat} (hone : 1 ≤ key) (hkey : key ≤ choices) (hsix : choices ≤ 6)
    (hkind : u.kind = some (.poll choices none)) :
    ((u.round.state = .opened ∨ u.round.state = .settling) →
      servePostKey (byte key) u = (storeKey key u, Status.done.bare)) ∧
    (u.round.state = .keywait →
      servePostKey (byte key) u = (endEvent u (scoreAndClose key (storeKey key u)), Status.done.bare)) := by
  have hbyte : (byte key).toNat = key := Nat.mod_eq_of_lt (by omega)
  have hzero : byte key ≠ 0#8 := fun e => by rw [e] at hbyte; exact absurd hbyte.symm (by simp; omega)
  have hrange := le_keyRange hkind hkey hsix
  have hadmitted : ¬ (byte key = 0#8 ∨ keyRange u < (byte key).toNat) := by
    rw [hbyte]; exact not_or.mpr ⟨hzero, Nat.not_lt.mpr hrange⟩
  unfold servePostKey
  rw [if_neg hadmitted, hkind, hbyte]
  refine ⟨?_, fun h => ?_⟩
  · rintro (h | h) <;> rw [h]
  · rw [h]

theorem endEvent_congr {a b : State} (h : a.roundActive = b.roundActive) (t : State) : endEvent a t = endEvent b t := by
  unfold endEvent
  rw [h]

/-- Settles O49. -/
theorem postKeyStoresOrScores : Obligations.PostKeyStoresOrScores := by
  intro c key choices body s hs hone hkey hsix hbody hkind
  let r : Request := .postKey (byte key)
  let u := received c r s
  let round : Round := { s.round with body := some { body with kind := .poll choices (some key) } }
  have hround : u.round = s.round := received_round c r s
  have hukind : u.kind = some (.poll choices none) := by
    rw [State.kind, hround, hbody]; exact congrArg some hkind
  have hstored : storeKey key u = { u with round } := by
    rw [storeKey, hround, hbody]
    simp only [Option.map_some, hkind, round]
  obtain ⟨hstores, hscores⟩ := servePostKey_of_taken hone hkey hsix hukind
  refine ⟨fun hstate => ?stores, fun hstate => ?scores⟩
  case stores =>
    have hserve := hstores (by rw [hround]; exact hstate)
    rw [hstored] at hserve
    exact exec_of_served (t := { u with round }) rfl rfl hs (by rw [serve, hserve]; rfl) (received_inProcess c r s)
  case scores =>
    have hactive : u.roundActive = ({ u with round } : State).roundActive := by rw [State.roundActive, hround]; rfl
    have hserve := hscores (by rw [hround]; exact hstate)
    rw [hstored, endEvent_congr hactive] at hserve
    obtain ⟨hclosed, hteam, hseat, hsheet, hkeeps⟩ :=
      scoreAndClose_spec (u := { u with round }) { u with round } key rfl rfl (fun _ => rfl) fun _ => rfl
    have hkept : ContestKeeps u { u with round } :=
      (ContestWrite.round (x := round) (s := u) (by rw [hactive]; rfl) (by rw [hround, hbody]; rfl)).keeps
    generalize endEvent { u with round } (scoreAndClose key { u with round }) = w at *
    have houtside : w.outsideContest = u.outsideContest := (hkept.trans hkeeps).outside
    have hframe : ContestFrame s w := ((received_contestFrame c r s).keeps hkept).keeps hkeeps
    have hexec := exec_of_served (i := .postKey c (byte key)) (r := r) (t := w) (status := .done) (data := []) rfl rfl hs
      (by rw [serve, hserve]; rfl) (inProcess_of_contest houtside)
    refine ⟨_, hexec, hclosed.congr_before rfl (by rw [received_clock]) (fun n => (received_line c r s n).symm)
      (fun n => (received_lineEnabled c r s n).symm), fun x => (hteam x).trans ?_, fun i => (hseat i).trans ?_,
      hsheet.trans (received_sheet c r s), hframe, answers_of_contest houtside .done []⟩
    · have hcopy : ({ u with round } : State).copy = s.copy := by
        simp only [State.copy, round, hbody]; rfl
      have hwindow : ({ u with round } : State).window = s.window := by
        simp only [State.window, round, hbody]; rfl
      rw [polledRecord_congr (t := { u with round }) (s := s) hcopy hwindow (received_team c r s) (received_seat c r s)
        (received_entry c r s)]
    · have hi : ({ u with round } : State).seat i = s.seat i := received_seat c r s i
      rw [hi]

/-! ## JUDGE RIGHT (R111) -/

/-- The lamps of a RIGHT verdict: the claim's seat, then every WAITING claim's (R111). -/
def rightLit (d : Claim) (u : State) : State :=
  lampWrites (fun i => if u.ladder.any fun e => !e.called && e.seat = i then some .idle else none)
    (lampWrite d.seat .right (scoreRight d.team u))

theorem judgeRight_eq (d : Claim) (u : State) : judgeRight d u = closeRound (.won d.team d.seat) (rightLit d u) := by
  have hladder : (lampWrite d.seat .right (scoreRight d.team u)).ladder = u.ladder := by
    rw [lampWrite_ladder, scoreRight, writeScore_ladder]
  unfold judgeRight rightLit
  dsimp only
  rw [hladder]

theorem rightLit_scores (d : Claim) (u : State) : (rightLit d u).outsideLamps = (scoreRight d.team u).outsideLamps :=
  (lampWrites_frame _ _).trans (lampWrite_frame _ _ _)

theorem rightLit_seat (d : Claim) (u : State) (i : SeatNo) :
    (rightLit d u).seat i = { u.seat i with
      lamp := if u.ladder.any fun e => !e.called && e.seat = i then .idle
        else if i = d.seat then .right else (u.seat i).lamp } := by
  rw [rightLit, lampWrites_seat, lampWrite_seat]
  by_cases hi : i = d.seat
  · subst hi
    rw [if_pos rfl, if_pos rfl, scoreRight, writeScore_seat]
    split <;> rfl
  · rw [if_neg hi, if_neg hi, scoreRight, writeScore_seat]
    split <;> rfl

theorem rightLit_team (d : Claim) (u : State) (y : TeamNo) : ∃ rank, (rightLit d u).team y =
    { (if y = d.team then (u.team d.team).award (rightAward u.copy (u.team d.team).streak) true else u.team y) with
      rank := rank } := by
  obtain ⟨rank, h⟩ := writeScore_team u d.team ((u.team d.team).award (rightAward u.copy (u.team d.team).streak) true) y
  exact ⟨rank, (State.team_of_lamps (rightLit_scores d u) y).trans h⟩

theorem rightLit_sending (d : Claim) (u : State) (n : LineNo) : ((rightLit d u).line n).sending = (u.line n).sending := by
  rw [rightLit, lampWrites_sending, lampWrite_sending, scoreRight, writeScore_line]

theorem rightLit_rules (d : Claim) (u : State) : (rightLit d u).rules = u.rules := by
  have e := congrArg State.rules (rightLit_scores d u)
  exact e.trans (writeScore_rules u _ _)

/-- Settles O50: the award, the lamps and the close, read off the state that the verdict leaves. -/
theorem judgeRightWins : Obligations.JudgeRightWins := by
  intro c d s hs hcalled hother x award
  let r : Request := .judge 0#8 (byte d.seat.val)
  let u := received c r s
  have hteam (y : TeamNo) : u.team y = s.team y := received_team c r s y
  have hcopy : u.copy = s.copy := received_copy c r s
  have hladder : u.ladder = s.ladder := received_ladder c r s
  have hserve : serveJudge 0#8 (byte d.seat.val) u = (endEvent u (judgeRight d u), Status.done.bare) := by
    have hcalled : u.calledClaim = some d := (received_calledClaim c r s).trans hcalled
    have hverdict : verdictArg 0#8 = some .right := rfl
    unfold serveJudge
    rw [hverdict, seatArg_byte, hcalled]
    exact if_pos rfl
  have hkeeps : ContestKeeps u (endEvent u (judgeRight d u)) :=
    (judgeRight_writes d u).keeps.trans (endEvent_keeps u _)
  have hclosed : RoundClosed u (endEvent u (judgeRight d u)) (.won d.team d.seat) := by
    have hlamps := rightLit_scores d u
    rw [judgeRight_eq]
    exact roundClosed_of_close u ((State.round_of_lamps hlamps).trans (writeScore_round u _ _))
      (by rw [State.clock_of_lamps hlamps]; exact congrArg Clock.count (writeScore_clock u _ _)) (rightLit_sending d u)
      (fun n => by rw [State.lineEnabled, State.rule, rightLit_rules]; rfl) _
  have hrecord (y : TeamNo) : (endEvent u (judgeRight d u)).team y = { (rightLit d u).team y with locked := false } := by
    rw [endEvent_team, judgeRight_eq, closeRound_team]
  have hseat (i : SeatNo) : (endEvent u (judgeRight d u)).seat i = { (rightLit d u).seat i with locked := false } := by
    rw [endEvent_seat, judgeRight_eq, closeRound_seat]
  have hsheet : (endEvent u (judgeRight d u)).sheet = s.sheet := by
    rw [endEvent_sheet, judgeRight_eq, closeRound_sheet, State.sheet_of_lamps (rightLit_scores d u), scoreRight,
      writeScore_sheet]
    exact received_sheet c r s
  have hwaiting (i : SeatNo) : (u.ladder.any fun e => !e.called && e.seat = i) = true ↔
      ∃ e ∈ s.ladder, e.called = false ∧ e.seat = i := by
    rw [hladder, List.any_eq_true]
    simp
  generalize endEvent u (judgeRight d u) = w at *
  have hframe : ContestFrame s w := (received_contestFrame c r s).keeps hkeeps
  have hown : w.team d.team = _ := hrecord d.team
  obtain ⟨rank, howned⟩ := rightLit_team d u d.team
  rw [howned, if_pos rfl, hteam, hcopy] at hown
  refine ⟨_, exec_of_served (i := .judge c 0#8 (byte d.seat.val)) (r := r) (t := w) (status := .done) (data := []) rfl rfl
    hs (by rw [serve, hserve]; rfl) (inProcess_of_contest hkeeps.outside), hclosed.of_received, ?_, ?_, ?_, ?_,
    fun e he hwait => ?_, fun y hy => ?_, fun i => ?_, hsheet, hframe,
    answers_of_contest hkeeps.outside .done []⟩
  · exact congrArg Team.score hown
  · exact congrArg Team.lastAward hown
  · exact congrArg Team.streak hown
  · have hnone : ¬ (u.ladder.any fun e => !e.called && e.seat = d.seat) = true := by
      rw [hwaiting]
      rintro ⟨e, he, hwait, hsame⟩
      exact hother e he hwait hsame
    exact (congrArg Seat.lamp (hseat d.seat)).trans (by rw [rightLit_seat, if_neg hnone, if_pos rfl])
  · exact (congrArg Seat.lamp (hseat e.seat)).trans
      (by rw [rightLit_seat, if_pos ((hwaiting e.seat).mpr ⟨e, he, hwait, rfl⟩)])
  · obtain ⟨rank, hrank⟩ := rightLit_team d u y
    have hrec := hrecord y
    rw [hrank, if_neg hy, hteam] at hrec
    have hscore : (w.team y).score = (s.team y).score := by rw [hrec]
    have hstreak : (w.team y).streak = (s.team y).streak := by rw [hrec]
    exact ⟨hscore, hstreak⟩
  · exact (congrArg Seat.team (hseat i)).trans (by rw [rightLit_seat, received_seat])

end Sys2Proof.Machine
end

section
/-! PROOFS. How a changed ladder goes on (R69, R72, R107, R114, R118, R119), stated before the end of the event, so that
what the event writes after it can be read off: lamps, bindings and records. -/

namespace Sys2Proof.Machine

variable {before s t u v w : State} {gone made : Claim} {lamp : SeatNo → Lamp}

/-! ## Notices (R183) -/

theorem Notice.bit_inj {j k : Notice} (h : j.bit = k.bit) : j = k := by
  cases j <;> cases k <;> simp only [Notice.bit, Notice.lineOverrun.injEq, Notice.lineGarble.injEq, Fin.ext_iff] at h ⊢ <;>
    omega

theorem Notice.mask_bit (j k : Notice) : k.mask.getLsbD j.bit = decide (j = k) := by
  have hlow : j.bit < 24 := by cases j <;> simp only [Notice.bit] <;> omega
  have hiff : j = k ↔ j.bit = k.bit := ⟨congrArg Notice.bit, Notice.bit_inj⟩
  simp only [Notice.mask, BitVec.getLsbD_shiftLeft, hlow, BitVec.getLsbD_one, hiff, decide_true, Bool.true_and]
  rw [Bool.eq_iff_iff]
  simp
  omega

theorem State.setNotice_notice_eq (j k : Notice) (s : State) : (s.setNotice k).notice j = (s.notice j || decide (j = k)) := by
  simp only [State.notice, State.setNotice, BitVec.getLsbD_or, Notice.mask_bit]

theorem State.setNotice_notice_of_ne {j k : Notice} (h : j ≠ k) (s : State) : (s.setNotice k).notice j = s.notice j := by
  rw [State.setNotice_notice_eq, decide_eq_false h, Bool.or_false]

theorem closeRound_notice_of_ne {j : Notice} (h : j ≠ .roundClosed) (o : RoundOutcome) (s : State) :
    (closeRound o s).notice j = s.notice j := by
  have e := State.setNotice_notice_of_ne h s
  rw [State.notice, closeRound_notices]
  exact e

/-! ## A close before the end of its event (R66, R93) -/

/-- What a round that closes leaves before the lines take its CLOSED mark. -/
structure RoundEnds (before t : State) (o : RoundOutcome) : Prop where
  round : t.round = { before.round with state := .closed, outcome := some o }
  ladder : t.ladder = []
  clock : t.clock = { Clock.initial with count := before.clock.count }
  teams (x : TeamNo) : (t.team x).locked = false
  seats (i : SeatNo) : (t.seat i).locked = false
  notice : t.notice .roundClosed = true
  sending (n : LineNo) : (t.line n).sending = (before.line n).sending
  enabled (n : LineNo) : t.lineEnabled n = before.lineEnabled n

theorem RoundEnds.closed {o : RoundOutcome} (h : RoundEnds before t o) : RoundClosed before (endEvent before t) o :=
  .of_ended h.round h.ladder h.clock h.teams h.seats h.notice h.sending h.enabled

theorem roundEnds_of_close (o : RoundOutcome) (hround : u.round = before.round)
    (hcount : u.clock.count = before.clock.count) (hsending : ∀ n, (u.line n).sending = (before.line n).sending)
    (henabled : ∀ n, u.lineEnabled n = before.lineEnabled n) : RoundEnds before (closeRound o u) o where
  round := by rw [closeRound_round, hround]
  ladder := closeRound_ladder u o
  clock := by rw [closeRound_clock, hcount]
  teams x := by rw [closeRound_team]
  seats i := by rw [closeRound_seat]
  notice := closeRound_notice o u
  sending n := by rw [closeRound_line, hsending]
  enabled n := by rw [closeRound_lineEnabled, henabled]

/-- `LadderWentOn` before the end of the event. -/
def LadderGoes (before t : State) (gone : Claim) (lamp : SeatNo → Lamp) : Prop :=
  let left := before.ladder.filter (·.team ≠ gone.team)
  (left = [] → NoCall before t lamp ∧
    if before.round.state = .draining then RoundEnds before t .noWinner
    else t.ladder = [] ∧ t.round = before.round ∧
      t.clock = { before.clock with call := none, judgeDeadline := none }) ∧
  (left ≠ [] → t.round = before.round ∧ HeadServed before t left lamp)

/-! ## Writes that follow the ladder's own in an event -/

/-- What writes of lamps, bindings, entries and records leave of what a ladder's event is judged by; `value` is the lamp
that they write for a seat. -/
structure Relit (value : SeatNo → Option Lamp) (t w : State) : Prop where
  ladder : w.ladder = t.ladder
  round : w.round = t.round
  clock : w.clock = t.clock
  called : w.notice .claimCalled = t.notice .claimCalled
  closed : w.notice .roundClosed = t.notice .roundClosed
  teamLock (x : TeamNo) (h : (t.team x).locked = false) : (w.team x).locked = false
  seatLock (i : SeatNo) (h : (t.seat i).locked = false) : (w.seat i).locked = false
  sending (n : LineNo) : (w.line n).sending = (t.line n).sending
  enabled (n : LineNo) : w.lineEnabled n = t.lineEnabled n
  lamp (i : SeatNo) : (w.seat i).lamp = (value i).getD (t.seat i).lamp

section
variable {value : SeatNo → Option Lamp} {ladder : List Claim}

theorem NoCall.relit (h : NoCall before t lamp) (r : Relit value t w) :
    NoCall before w fun i => (value i).getD (lamp i) :=
  ⟨r.called.trans h.1, fun i => by rw [r.lamp, h.2]⟩

theorem HeadServed.relit (h : HeadServed before t ladder lamp) (r : Relit value t w)
    (hhead : ∀ d ∈ ladder, value d.seat = none) : HeadServed before w ladder fun i => (value i).getD (lamp i) := by
  intro head hmem
  have hserved := h head hmem
  dsimp only at hserved ⊢
  split
  · next hcalled =>
    rw [if_pos hcalled] at hserved
    obtain ⟨hladder, hnone, hclock⟩ := hserved
    exact ⟨r.ladder.trans hladder, NoCall.relit hnone r, r.clock.trans hclock⟩
  · next hwaiting =>
    rw [if_neg hwaiting] at hserved
    split
    · next hdue =>
      rw [if_pos hdue] at hserved
      obtain ⟨hladder, hnotice, hlamp, hclock⟩ := hserved
      refine ⟨r.ladder.trans hladder, r.called.trans hnotice, fun i => ?_, r.clock.trans hclock⟩
      rw [r.lamp, hlamp]
      split
      · next hi => rw [hi, hhead head (List.mem_of_head? hmem)]; rfl
      · rfl
    · next hlater =>
      rw [if_neg hlater] at hserved
      obtain ⟨hladder, hnone, hclock⟩ := hserved
      exact ⟨r.ladder.trans hladder, NoCall.relit hnone r, r.clock.trans hclock⟩

theorem RoundEnds.relit {o : RoundOutcome} (h : RoundEnds before t o) (r : Relit value t w) : RoundEnds before w o where
  round := r.round.trans h.round
  ladder := r.ladder.trans h.ladder
  clock := r.clock.trans h.clock
  teams x := r.teamLock x (h.teams x)
  seats i := r.seatLock i (h.seats i)
  notice := r.closed.trans h.notice
  sending n := (r.sending n).trans (h.sending n)
  enabled n := (r.enabled n).trans (h.enabled n)

theorem LadderGoes.relit (h : LadderGoes before t gone lamp) (r : Relit value t w)
    (hhead : ∀ d ∈ before.ladder, d.team ≠ gone.team → value d.seat = none) :
    LadderGoes before w gone fun i => (value i).getD (lamp i) := by
  obtain ⟨hnil, hcons⟩ := h
  refine ⟨fun hleft => ?_, fun hleft => ?_⟩
  · obtain ⟨hnone, hends⟩ := hnil hleft
    refine ⟨NoCall.relit hnone r, ?_⟩
    split
    · next hdraining => rw [if_pos hdraining] at hends; exact hends.relit r
    · next hgoing =>
      rw [if_neg hgoing] at hends
      obtain ⟨hladder, hround, hclock⟩ := hends
      exact ⟨r.ladder.trans hladder, r.round.trans hround, r.clock.trans hclock⟩
  · obtain ⟨hround, hserved⟩ := hcons hleft
    refine ⟨r.round.trans hround, HeadServed.relit hserved r fun d hd => ?_⟩
    obtain ⟨hmem, hteam⟩ := List.mem_filter.mp hd
    exact hhead d hmem (by simpa using hteam)

end

/-! ## The end of the event -/

theorem NoCall.ended (h : NoCall before t lamp) (e : State) : NoCall before (endEvent e t) lamp :=
  ⟨by rw [State.notice, endEvent_notices]; exact h.1, fun i => by rw [endEvent_seat]; exact h.2 i⟩

theorem HeadServed.ended {ladder : List Claim} (h : HeadServed before t ladder lamp) (e : State) :
    HeadServed before (endEvent e t) ladder lamp := by
  intro head hmem
  have hserved := h head hmem
  dsimp only at hserved ⊢
  rw [endEvent_ladder, endEvent_clock]
  split
  · next hcalled =>
    rw [if_pos hcalled] at hserved
    exact ⟨hserved.1, NoCall.ended hserved.2.1 e, hserved.2.2⟩
  · next hwaiting =>
    rw [if_neg hwaiting] at hserved
    split
    · next hdue =>
      rw [if_pos hdue] at hserved
      obtain ⟨hladder, hnotice, hlamp, hclock⟩ := hserved
      exact ⟨hladder, by rw [State.notice, endEvent_notices]; exact hnotice, fun i => by rw [endEvent_seat]; exact hlamp i,
        hclock⟩
    · next hlater =>
      rw [if_neg hlater] at hserved
      exact ⟨hserved.1, NoCall.ended hserved.2.1 e, hserved.2.2⟩

/-- The ladder went on when the event that moved it has ended. -/
theorem LadderGoes.wentOn (h : LadderGoes before t gone lamp) : LadderWentOn before (endEvent before t) gone lamp := by
  obtain ⟨hnil, hcons⟩ := h
  refine ⟨fun hleft => ?_, fun hleft => ?_⟩
  · obtain ⟨hnone, hends⟩ := hnil hleft
    refine ⟨NoCall.ended hnone before, ?_⟩
    split
    · next hdraining => rw [if_pos hdraining] at hends; exact hends.closed
    · next hgoing =>
      rw [if_neg hgoing] at hends
      rw [endEvent_ladder, endEvent_round, endEvent_clock]
      exact hends
  · obtain ⟨hround, hserved⟩ := hcons hleft
    exact ⟨by rw [endEvent_round]; exact hround, HeadServed.ended hserved before⟩

/-! ## The ladder about to go on -/

/-- A ladder that an event has changed and that is about to re-arm its call: what it shares with the state before. -/
structure Rearming (before v : State) (lamp : SeatNo → Lamp) : Prop where
  ready : LadderReady v
  round : v.round = before.round
  clock : { v.clock with call := none, judgeDeadline := none } = { before.clock with call := none, judgeDeadline := none }
  deadline : v.clock.judgeDeadline = none ∨ v.clock.judgeDeadline = before.clock.judgeDeadline
  called : v.notice .claimCalled = before.notice .claimCalled
  lamp (i : SeatNo) : (v.seat i).lamp = lamp i
  sending (n : LineNo) : (v.line n).sending = (before.line n).sending
  enabled (n : LineNo) : v.lineEnabled n = before.lineEnabled n

section
variable (h : Rearming before v lamp)
include h

theorem Rearming.copy : v.copy = before.copy := by rw [State.copy, State.copy, h.round]

theorem Rearming.count : v.clock.count = before.clock.count := by
  have e := congrArg Clock.count h.clock; exact e

/-- A write of both of the ladder's compares forgets what they were. -/
theorem Rearming.write (call judgeDeadline : Option Nat) :
    { v.clock with call, judgeDeadline } = { before.clock with call, judgeDeadline } := by
  have e := congrArg (fun k : Clock => { k with call, judgeDeadline }) h.clock; exact e

theorem Rearming.deadline_of_waiting (hwaiting : ∀ d ∈ v.ladder, d.called = false) : v.clock.judgeDeadline = none := by
  rw [← Option.not_isSome_iff_eq_none, h.ready.deadline]
  rintro ⟨d, hd, hcalled⟩
  rw [hwaiting d hd] at hcalled
  cases hcalled

theorem Rearming.deadline_of_called {d : Claim} (hd : d ∈ v.ladder) (hcalled : d.called = true) :
    v.clock.judgeDeadline = before.clock.judgeDeadline := by
  have hsome := h.ready.deadline.mpr ⟨d, hd, hcalled⟩
  exact h.deadline.resolve_left fun hnone => by rw [hnone] at hsome; cases hsome

/-- Re-arming the call serves the head, whichever way (R69, R72, R107). -/
theorem Rearming.served : HeadServed before (rearmCall v) v.ladder lamp := by
  intro head hmem
  have horder := h.ready.order
  cases hladder : v.ladder with
  | nil => rw [hladder] at hmem; cases hmem
  | cons first rest =>
    rw [hladder] at hmem
    obtain rfl : first = head := by simpa using hmem
    have hfirst : first ∈ v.ladder := by rw [hladder]; exact .head _
    dsimp only
    split
    · next hcalled =>
      rw [rearmCall_of_called hladder horder hcalled]
      refine ⟨hladder, ⟨h.called, h.lamp⟩, ?_⟩
      exact (h.write none v.clock.judgeDeadline).trans (by rw [h.deadline_of_called hfirst hcalled])
    · next hnot =>
      have hwaiting : first.called = false := by simpa using hnot
      have hnone := h.deadline_of_waiting fun d hd => by
        rw [hladder] at hd horder
        rcases List.mem_cons.mp hd with rfl | hd
        · exact hwaiting
        · exact horder.rest_waiting hd
      split
      · next hdue =>
        rw [← h.copy, ← h.count] at hdue
        rw [rearmCall_of_due hladder horder hwaiting hdue]
        refine ⟨callHead_ladder hladder, ?_, fun i => ?_, ?_⟩
        · rw [callHead_of_cons hladder]; exact State.setNotice_notice _ _
        · have hseat : (callHead v).seat i = if i = first.seat then { v.seat first.seat with lamp := .called } else v.seat i := by
            rw [callHead_of_cons hladder]; exact lampWrite_seat _ _ _ i
          rw [hseat]
          split
          · rfl
          · exact h.lamp i
        · rw [callHead_clock hladder, h.copy, h.count]; exact h.write _ _
      · next hlater =>
        rw [← h.copy, ← h.count] at hlater
        rw [rearmCall_of_later hladder horder hwaiting (Nat.lt_of_not_le hlater)]
        refine ⟨hladder, ⟨h.called, h.lamp⟩, ?_⟩
        exact (h.write (some (first.offset + v.copy.callSettle)) v.clock.judgeDeadline).trans (by rw [hnone, h.copy])

/-- The other claims go on without the claim that left (R86, R114, R118, R119). -/
theorem Rearming.goes (hladder : v.ladder = before.ladder.filter (·.team ≠ gone.team)) :
    LadderGoes before (ladderGoesOn v) gone lamp := by
  refine ⟨fun hleft => ?_, fun hleft => ?_⟩
  · have hnil : v.ladder = [] := hladder.trans hleft
    split
    · next hdraining =>
      rw [ladderGoesOn_of_drained hnil (by rw [h.round]; exact hdraining)]
      exact ⟨⟨(closeRound_notice_of_ne (by decide) .noWinner v).trans h.called,
        fun i => by rw [closeRound_seat]; exact h.lamp i⟩,
        roundEnds_of_close .noWinner h.round h.count h.sending h.enabled⟩
    · next hgoing =>
      rw [ladderGoesOn_of_rearm (.inr (by rw [h.round]; exact hgoing)), rearmCall_of_nil hnil]
      refine ⟨⟨h.called, h.lamp⟩, hnil, h.round, ?_⟩
      have hnone := h.deadline_of_waiting fun d hd => by rw [hnil] at hd; cases hd
      exact (h.write none v.clock.judgeDeadline).trans (by rw [hnone])
  · have hne : v.ladder ≠ [] := fun e => hleft (hladder.symm.trans e)
    rw [ladderGoesOn_of_rearm (.inl hne)]
    have hserved := h.served
    rw [hladder] at hserved
    exact ⟨(rearmCall_round v).trans h.round, hserved⟩

end

end Sys2Proof.Machine
end

section
/-! PROOFS. What re-arming the call and the ladder's going on leave alone; JUDGE WRONG, JUDGE PASS, the call and the judge
deadline (R107, R112 to R116). -/

namespace Sys2Proof.Machine

variable {c : Bool} {s t u v w x : State} {d gone : Claim}

/-! ## What re-arming the call leaves alone (R72, R107) -/

/-- The state but for what a call reaches. -/
def State.outsideCall (s : State) : State :=
  { s with seats := Vector.replicate 128 Seat.initial, lines := Vector.replicate 4 Line.initial, ladder := []
           clock := Clock.initial, notices := 0#24 }

theorem callHead_outside (s : State) : (callHead s).outsideCall = s.outsideCall := by
  unfold callHead
  split
  · rfl
  · next head rest _ =>
    have e := congrArg State.outsideCall (lampWrite_frame { s with
      ladder := { head with called := true } :: rest
      clock := { s.clock with call := none, judgeDeadline := some (s.clock.count + s.copy.judgeWindow) } } head.seat .called)
    exact e

/-- Every property that the call of a head and a write of the call compare keep, re-arming keeps. -/
theorem rearmCall_cases {p : State → Prop} (hclock : ∀ call, p { s with clock := { s.clock with call } })
    (hcall : p (callHead s)) : p (rearmCall s) := by
  unfold rearmCall
  split
  · exact hclock none
  · dsimp only
    split
    · exact hclock none
    · split
      · exact hcall
      · exact hclock _

theorem rearmCall_outside (s : State) : (rearmCall s).outsideCall = s.outsideCall :=
  rearmCall_cases (p := fun t => t.outsideCall = s.outsideCall) (fun _ => rfl) (callHead_outside s)

theorem callHead_seat (s : State) (i : SeatNo) : ∃ v, (callHead s).seat i = { s.seat i with lamp := v } := by
  unfold callHead
  split
  · exact ⟨_, rfl⟩
  · next head rest _ =>
    rw [State.setNotice_seat, lampWrite_seat]
    split
    · next e => exact ⟨.called, by rw [e]; rfl⟩
    · exact ⟨_, rfl⟩

theorem rearmCall_seat (s : State) (i : SeatNo) : ∃ v, (rearmCall s).seat i = { s.seat i with lamp := v } :=
  rearmCall_cases (p := fun t => ∃ v, t.seat i = { s.seat i with lamp := v }) (fun _ => ⟨_, rfl⟩) (callHead_seat s i)

theorem callHead_notice {k : Notice} (h : k ≠ .claimCalled) (s : State) : (callHead s).notice k = s.notice k := by
  unfold callHead
  split
  · rfl
  · rw [State.setNotice_notice_of_ne h, State.notice, lampWrite_notices]; rfl

theorem rearmCall_notice {k : Notice} (h : k ≠ .claimCalled) (s : State) : (rearmCall s).notice k = s.notice k :=
  rearmCall_cases (p := fun t => t.notice k = s.notice k) (fun _ => rfl) (callHead_notice h s)

theorem rearmCall_entry (s : State) (i : SeatNo) : (rearmCall s).entry i = s.entry i := by
  have e := congrArg (State.entry · i) (rearmCall_outside s); exact e

/-- What the ladder's going on leaves of the records: all but locks and lamps (R93, R107). -/
theorem ladderGoesOn_records (s : State) :
    (∀ y, { (ladderGoesOn s).team y with locked := false } = { s.team y with locked := false }) ∧
      (∀ i, { (ladderGoesOn s).seat i with locked := false, lamp := .idle } =
        { s.seat i with locked := false, lamp := .idle }) ∧
      (ladderGoesOn s).standings = s.standings ∧ (ladderGoesOn s).sheet = s.sheet := by
  unfold ladderGoesOn
  split
  · refine ⟨fun y => ?_, fun i => ?_, closeRound_standings s _, closeRound_sheet s _⟩
    · rw [closeRound_team]
    · rw [closeRound_seat]
  · have hstandings := congrArg State.standings (rearmCall_outside s)
    have hsheet := congrArg State.sheet (rearmCall_outside s)
    refine ⟨fun y => by rw [rearmCall_team], fun i => ?_, hstandings, hsheet⟩
    obtain ⟨lamp, h⟩ := rearmCall_seat s i
    rw [h]

theorem ladderGoesOn_notice {k : Notice} (hcalled : k ≠ .claimCalled) (hclosed : k ≠ .roundClosed) (s : State) :
    (ladderGoesOn s).notice k = s.notice k := by
  unfold ladderGoesOn
  split
  · exact closeRound_notice_of_ne hclosed _ s
  · exact rearmCall_notice hcalled s

/-- While the round goes on a team keeps its lock. -/
theorem ladderGoesOn_team_of_open (h : (ladderGoesOn s).round.state ≠ .closed) (y : TeamNo) :
    (ladderGoesOn s).team y = s.team y := by
  unfold ladderGoesOn at h ⊢
  split
  · next hdrained => rw [if_pos hdrained, closeRound_round] at h; exact absurd rfl h
  · exact rearmCall_team s y

/-! ## A state whose ladder is still that of the state before -/

/-- The ladder, the round, the claims' seats and the lines' transmitters stand as before; the judge deadline stands or is
disarmed. -/
structure Unmoved (s x : State) : Prop where
  ladder : x.ladder = s.ladder
  round : x.round = s.round
  clock : { x.clock with call := none, judgeDeadline := none } = { s.clock with call := none, judgeDeadline := none }
  deadline : x.clock.judgeDeadline = none ∨ x.clock.judgeDeadline = s.clock.judgeDeadline
  called : x.notice .claimCalled = s.notice .claimCalled
  seat (i : SeatNo) : (x.seat i).lamp = (s.seat i).lamp ∧ (x.seat i).team = (s.seat i).team
  sending (n : LineNo) : (x.line n).sending = (s.line n).sending
  enabled (n : LineNo) : x.lineEnabled n = s.lineEnabled n

theorem Unmoved.refl (s : State) : Unmoved s s :=
  ⟨rfl, rfl, rfl, .inr rfl, rfl, fun _ => ⟨rfl, rfl⟩, fun _ => rfl, fun _ => rfl⟩

theorem Unmoved.trans (h : Unmoved s t) (k : Unmoved t u) : Unmoved s u where
  ladder := k.ladder.trans h.ladder
  round := k.round.trans h.round
  clock := k.clock.trans h.clock
  deadline := k.deadline.elim .inl fun e => e ▸ h.deadline
  called := k.called.trans h.called
  seat i := ⟨(k.seat i).1.trans (h.seat i).1, (k.seat i).2.trans (h.seat i).2⟩
  sending n := (k.sending n).trans (h.sending n)
  enabled n := (k.enabled n).trans (h.enabled n)

theorem Unmoved.received (c : Bool) (r : Request) (s : State) : Unmoved s (received c r s) where
  ladder := received_ladder c r s
  round := received_round c r s
  clock := by rw [received_clock]
  deadline := .inr (by rw [received_clock])
  called := by rw [State.notice, received_notices]; rfl
  seat i := by rw [received_seat]; exact ⟨rfl, rfl⟩
  sending n := by rw [received_line]
  enabled n := received_lineEnabled c r s n

theorem Unmoved.setTeam (s : State) (y : TeamNo) (record : Team) : Unmoved s (s.setTeam y record) :=
  ⟨rfl, rfl, rfl, .inr rfl, rfl, fun _ => ⟨rfl, rfl⟩, fun _ => rfl, fun _ => rfl⟩

theorem Unmoved.setNotice {k : Notice} (h : k ≠ .claimCalled) (s : State) : Unmoved s (s.setNotice k) :=
  ⟨rfl, rfl, rfl, .inr rfl, State.setNotice_notice_of_ne h.symm s, fun _ => ⟨rfl, rfl⟩, fun _ => rfl, fun _ => rfl⟩

theorem Unmoved.writeScore (s : State) (y : TeamNo) (record : Team) : Unmoved s (writeScore y record s) where
  ladder := writeScore_ladder s y record
  round := writeScore_round s y record
  clock := by rw [writeScore_clock]
  deadline := .inr (by rw [writeScore_clock])
  called := by rw [State.notice, writeScore_notices]; rfl
  seat i := by rw [writeScore_seat]; exact ⟨rfl, rfl⟩
  sending n := by rw [writeScore_line]
  enabled n := by rw [State.lineEnabled, State.rule, writeScore_rules]; rfl

theorem Unmoved.roundActive (h : Unmoved s x) : x.roundActive = s.roundActive := by
  rw [State.roundActive, State.roundActive, h.round]

/-! ## A verdict (R112, R113) -/

theorem verdictGiven_spec (d : Claim) (value : Lamp) (x : State) :
    (verdictGiven d value x).round = x.round ∧ (verdictGiven d value x).clock = { x.clock with judgeDeadline := none } ∧
      (verdictGiven d value x).notices = x.notices ∧ (verdictGiven d value x).standings = x.standings ∧
      (verdictGiven d value x).sheet = x.sheet ∧ ∀ n, (verdictGiven d value x).lineEnabled n = x.lineEnabled n := by
  have hframe := verdictLamps_frame (lockTeam d.team x) d value
  refine ⟨?_, ?_, ?_, ?_, ?_, fun n => ?_⟩
  · have e := congrArg State.round hframe; exact e
  · have e := congrArg (fun y : State => { y.clock with judgeDeadline := none }) hframe; exact e
  · have e := congrArg State.notices hframe; exact e
  · have e := congrArg State.standings hframe; exact e
  · have e := congrArg State.sheet hframe; exact e
  · have e := congrArg (State.lineEnabled · n) hframe; exact e

/-- The lamps of a verdict (R112, R113). -/
def verdictLamp (d : Claim) (value : Lamp) (s : State) (i : SeatNo) : Lamp :=
  if i = d.seat then value else if (s.seat i).team = some d.team then .locked else (s.seat i).lamp

theorem verdictGiven_seat (d : Claim) (value : Lamp) (x : State) (i : SeatNo) :
    (verdictGiven d value x).seat i = { x.seat i with lamp := verdictLamp d value x i } := by
  have h : (verdictGiven d value x).seat i = _ := lampWrites_seat (fun j => if j = d.seat then some value
    else if ((lockTeam d.team x).seat j).team = some d.team then some .locked else none) (lockTeam d.team x) i
  rw [h, lockTeam, State.setTeam_seat, verdictLamp]
  split
  · rfl
  · split <;> rfl

theorem verdictGiven_sending (d : Claim) (value : Lamp) (x : State) (n : LineNo) :
    ((verdictGiven d value x).line n).sending = (x.line n).sending := lampWrites_sending _ (lockTeam d.team x) n

/-- A verdict leaves the ladder about to go on without the judged claim. -/
theorem verdictGiven_rearming (hs : LadderInOrder s) (hd : d ∈ s.ladder) (hcalled : d.called = true) (hx : Unmoved s x)
    (hstate : ∀ y, (x.team y).state = (s.team y).state) (value : Lamp) :
    Rearming s (verdictGiven d value x) (verdictLamp d value s) := by
  obtain ⟨hround, hclock, hnotices, -, -, henabled⟩ := verdictGiven_spec d value x
  refine ⟨?_, hround.trans hx.round, ?_, .inl (by rw [hclock]), ?_, fun i => ?_, fun n => ?_, fun n => ?_⟩
  · refine hs.ready_of_removed hd (by rw [verdictGiven_ladder, hx.ladder]) (hround.trans hx.round) (fun y hy => ?_)
      (fun i y _ hi => ?_) (by rw [hclock, if_pos hcalled])
    · rw [verdictGiven_team, if_neg hy, hstate]
    · rw [verdictGiven_seat]; exact (hx.seat i).2.trans hi
  · rw [hclock]; exact hx.clock
  · rw [State.notice, hnotices]; exact hx.called
  · rw [verdictGiven_seat, verdictLamp, verdictLamp, (hx.seat i).1, (hx.seat i).2]
  · rw [verdictGiven_sending, hx.sending]
  · rw [henabled, hx.enabled]

/-- What a verdict leaves of the device when the ladder has gone on (R112 to R114). -/
theorem verdict_spec (hs : LadderInOrder s) (hd : d ∈ s.ladder) (hcalled : d.called = true) (hx : Unmoved s x)
    (hstate : ∀ y, (x.team y).state = (s.team y).state) (value : Lamp) :
    let w := endEvent s (ladderGoesOn (verdictGiven d value x))
    LadderWentOn s w d (verdictLamp d value s) ∧ (w.round.state ≠ .closed → (w.team d.team).locked = true) ∧
      (∀ y, { w.team y with locked := false } = { x.team y with locked := false }) ∧
      (∀ i, (w.seat i).team = (s.seat i).team) ∧ w.standings = x.standings ∧ w.sheet = x.sheet ∧
      ∀ k, k ≠ .claimCalled → k ≠ .roundClosed → w.notice k = x.notice k := by
  intro w
  have hrearming := verdictGiven_rearming hs hd hcalled hx hstate value
  obtain ⟨-, -, hnotices, hstandings, hsheet, -⟩ := verdictGiven_spec d value x
  obtain ⟨hteams, hseats, hlist, hentries⟩ := ladderGoesOn_records (verdictGiven d value x)
  refine ⟨(hrearming.goes (by rw [verdictGiven_ladder, hx.ladder])).wentOn, fun hopen => ?_, fun y => ?_, fun i => ?_, ?_,
    ?_, fun k hcalled hclosed => ?_⟩
  · rw [endEvent_round] at hopen
    rw [endEvent_team, ladderGoesOn_team_of_open hopen, verdictGiven_team, if_pos rfl]
  · rw [endEvent_team, hteams, verdictGiven_team]
    split <;> rfl
  · have e := congrArg Seat.team (hseats i)
    rw [endEvent_seat]
    refine Eq.trans e ?_
    rw [verdictGiven_seat]
    exact (hx.seat i).2
  · rw [endEvent_standings, hlist, hstandings]
  · rw [endEvent_sheet, hentries, hsheet]
  · rw [State.notice, endEvent_notices]
    refine (ladderGoesOn_notice hcalled hclosed _).trans ?_
    rw [State.notice, hnotices]
    rfl

end Sys2Proof.Machine
end

section
/-! PROOFS. JUDGE WRONG and JUDGE PASS, the call and the judge deadline (R107, R112 to R116). -/

namespace Sys2Proof.Machine

variable {c : Bool} {s t u v w x : State} {d : Claim}

/-! ## The score of a WRONG verdict (R143) -/

theorem scoreWrong_own (y : TeamNo) (u : State) :
    ((scoreWrong y u).team y).score = clampScore ((u.team y).score - u.copy.buzzWrong) ∧
      ((scoreWrong y u).team y).streak = 0 ∧
      ((scoreWrong y u).team y).lastAward = some (-(u.copy.buzzWrong : Int)) := by
  obtain ⟨rank, h⟩ := writeScore_team u y ((u.team y).award (-(u.copy.buzzWrong : Int)) false) y
  rw [if_pos rfl] at h
  rw [scoreWrong, h]
  exact ⟨by rw [Int.sub_eq_add_neg]; rfl, rfl, rfl⟩

theorem scoreWrong_other {y z : TeamNo} (hz : z ≠ y) (u : State) : ((scoreWrong y u).team z).score = (u.team z).score := by
  obtain ⟨rank, h⟩ := writeScore_team u y ((u.team y).award (-(u.copy.buzzWrong : Int)) false) z
  rw [if_neg hz] at h
  rw [scoreWrong, h]

/-! ## JUDGE WRONG and JUDGE PASS (R112, R113) -/

theorem serveJudge_of_called {v : Verdict} {verdict : Byte} (hv : verdictArg verdict = some v)
    (h : u.calledClaim = some d) :
    serveJudge verdict (byte d.seat.val) u = (endEvent u (applyVerdict v d u), Status.done.bare) := by
  unfold serveJudge
  rw [hv, seatArg_byte, h]
  exact if_pos rfl

/-- What a verdict that does not close the round WON leaves, whichever it is: `x` is the state that its score leaves. -/
theorem exec_verdict {v : Verdict} {verdict : Byte} {value : Lamp} (hs : PortReady c s) (hcalled : s.calledClaim = some d)
    (hladder : LadderInOrder s) (hv : verdictArg verdict = some v)
    (hunmoved : Unmoved (received c (.judge verdict (byte d.seat.val)) s) x)
    (hstate : ∀ y, (x.team y).state = (s.team y).state) (hsheet : x.sheet = s.sheet)
    (happly : applyVerdict v d (received c (.judge verdict (byte d.seat.val)) s) = ladderGoesOn (verdictGiven d value x)) :
    ∃ w, exec (.judge c verdict (byte d.seat.val)) s = .next w ∧ LadderWentOn s w d (verdictLamp d value s) ∧
      (w.round.state ≠ .closed → (w.team d.team).locked = true) ∧
      (∀ y, { w.team y with locked := false } = { x.team y with locked := false }) ∧
      (∀ i, (w.seat i).team = (s.seat i).team) ∧ w.standings = x.standings ∧ w.sheet = s.sheet ∧ ContestFrame s w ∧
      w.answers = (answered c .done [] s).answers := by
  obtain ⟨hmem, hiscalled⟩ := calledClaim_eq_some hcalled
  have hreceived := Unmoved.received c (.judge verdict (byte d.seat.val)) s
  obtain ⟨hwent, hlock, hteams, hseats, hlist, hentries, -⟩ :=
    verdict_spec hladder hmem hiscalled (hreceived.trans hunmoved) hstate value
  have hserve := serveJudge_of_called (u := received c (.judge verdict (byte d.seat.val)) s) hv
    ((received_calledClaim _ _ _).trans hcalled)
  have hkeeps := (applyVerdict_writes v d (received c (.judge verdict (byte d.seat.val)) s)).keeps.trans
    (endEvent_keeps (received c (.judge verdict (byte d.seat.val)) s) _)
  rw [happly, endEvent_congr hreceived.roundActive] at hserve hkeeps
  have hexec := exec_of_served (i := .judge c verdict (byte d.seat.val)) (r := .judge verdict (byte d.seat.val))
    (status := .done) (data := []) rfl rfl hs (by rw [serve, hserve]; rfl) (inProcess_of_contest hkeeps.outside)
  have hanswers := answers_of_contest hkeeps.outside .done []
  have hframe : ContestFrame s _ := (received_contestFrame c _ s).keeps hkeeps
  generalize endEvent s (ladderGoesOn (verdictGiven d value x)) = w at *
  exact ⟨_, hexec, hwent, hlock, hteams, hseats, hlist, hentries.trans hsheet, hframe, hanswers⟩

/-- Settles O51: each verdict is its score, its lock and lamps, and the ladder going on. -/
theorem judgeWrongAndPassGoOn : Obligations.JudgeWrongAndPassGoOn := by
  intro c d s hs hcalled hladder team judged
  refine ⟨?wrong, ?pass⟩
  case wrong =>
    let u := received c (.judge 1#8 (byte d.seat.val)) s
    have hteam (y : TeamNo) : u.team y = s.team y := received_team c _ s y
    have hcopy : u.copy = s.copy := received_copy c _ s
    obtain ⟨hscore, hstreak, haward⟩ := scoreWrong_own d.team u
    rw [hteam, hcopy] at hscore
    rw [hcopy] at haward
    obtain ⟨w, hexec, hwent, hlock, hrecords, hseats, -, hsheet, hframe, hanswers⟩ :=
      exec_verdict (v := .wrong) (value := .wrong) (x := scoreWrong d.team u) hs hcalled hladder rfl
        (.writeScore u _ _) (fun y => by rw [(scoreWrong_sameClaims d.team u).state, hteam])
        ((writeScore_sheet u _ _).trans (received_sheet c _ s)) rfl
    have hread {α : Type} (f : Team → α) (hf : ∀ z : Team, f { z with locked := false } = f z) (y : TeamNo) :
        f (w.team y) = f ((scoreWrong d.team u).team y) := by rw [← hf, hrecords, hf]
    refine ⟨w, ⟨hexec, hwent, hlock, fun y hy => ?_, hseats, hsheet, hframe, hanswers⟩, ?_, ?_, ?_⟩
    · rw [hread Team.score (fun _ => rfl), scoreWrong_other hy, hteam]
    · rw [hread Team.score (fun _ => rfl), hscore]
    · rw [hread Team.streak (fun _ => rfl), hstreak]
    · rw [hread Team.lastAward (fun _ => rfl), haward]
  case pass =>
    let u := received c (.judge 2#8 (byte d.seat.val)) s
    have hteam (y : TeamNo) : u.team y = s.team y := received_team c _ s y
    obtain ⟨w, hexec, hwent, hlock, hrecords, hseats, hlist, hsheet, hframe, hanswers⟩ :=
      exec_verdict (v := .pass) (value := .locked) (x := u) hs hcalled hladder rfl (.refl u)
        (fun y => by rw [hteam]) (received_sheet c _ s) rfl
    have hread {α : Type} (f : Team → α) (hf : ∀ z : Team, f { z with locked := false } = f z) (y : TeamNo) :
        f (w.team y) = f (s.team y) := by rw [← hf, hrecords, hf, hteam]
    exact ⟨w, ⟨hexec, hwent, hlock, fun y _ => hread Team.score (fun _ => rfl) y, hseats, hsheet, hframe, hanswers⟩,
      hread Team.score (fun _ => rfl) _, hread Team.streak (fun _ => rfl) _,
      hlist.trans (received_standings c _ s)⟩

/-! ## The call and the judge deadline (R107, R116) -/

theorem State.queueOn_setNotice (s : State) (n : LineNo) (f : Line → Line) (k : Notice) :
    (s.queueOn n f).setNotice k = (s.setNotice k).queueOn n f := by
  unfold State.queueOn
  have henabled : (s.setNotice k).lineEnabled n = s.lineEnabled n := rfl
  rw [henabled]
  split <;> rfl

/-- The state that the judge deadline judges, and the score that its verdict leaves (R116). -/
def timedOut (d : Claim) (s : State) : State :=
  let noted := ({ s with clock := { s.clock with judgeDeadline := none } } : State).setNotice .judgeTimeout
  if s.copy.timeoutAs = 0 then scoreWrong d.team noted else noted

theorem timeOut_eq (d : Claim) (s : State) :
    timeOut d { s with clock := { s.clock with judgeDeadline := none } } =
      ladderGoesOn (verdictGiven d (if s.copy.timeoutAs = 0 then .wrong else .locked) (timedOut d s)) := by
  have hcopy : ({ s with clock := { s.clock with judgeDeadline := none } } : State).copy = s.copy := rfl
  unfold timeOut timedOut
  rw [hcopy]
  dsimp only
  split <;> rfl

theorem timedOut_unmoved (d : Claim) (s : State) : Unmoved s (timedOut d s) := by
  have hdisarmed : Unmoved s { s with clock := { s.clock with judgeDeadline := none } } :=
    ⟨rfl, rfl, rfl, .inl rfl, rfl, fun _ => ⟨rfl, rfl⟩, fun _ => rfl, fun _ => rfl⟩
  have hnoted := hdisarmed.trans (Unmoved.setNotice (k := .judgeTimeout) (by decide) _)
  unfold timedOut
  dsimp only
  split
  · exact hnoted.trans (.writeScore _ _ _)
  · exact hnoted

/-- What the deadline leaves of the records before the ladder goes on. -/
theorem timedOut_records (d : Claim) (s : State) :
    (timedOut d s).notice .judgeTimeout = true ∧ (timedOut d s).sheet = s.sheet ∧
      (∀ y, ((timedOut d s).team y).state = (s.team y).state) ∧
      ((timedOut d s).team d.team).score =
        (if s.copy.timeoutAs = 0 then clampScore ((s.team d.team).score - s.copy.buzzWrong)
          else (s.team d.team).score) ∧
      ∀ y, y ≠ d.team → ((timedOut d s).team y).score = (s.team y).score := by
  generalize hn : ({ s with clock := { s.clock with judgeDeadline := none } } : State).setNotice .judgeTimeout = noted
  have hnotice : noted.notice .judgeTimeout = true := by rw [← hn]; exact State.setNotice_notice _ _
  have hteam (y : TeamNo) : noted.team y = s.team y := by rw [← hn]; rfl
  have hcopy : noted.copy = s.copy := by rw [← hn]; rfl
  have hsheet : noted.sheet = s.sheet := by rw [← hn]; rfl
  unfold timedOut
  dsimp only
  rw [hn]
  split
  · refine ⟨by rw [State.notice, scoreWrong, writeScore_notices]; exact hnotice, (writeScore_sheet noted _ _).trans hsheet,
      fun y => by rw [(scoreWrong_sameClaims d.team noted).state, hteam], ?_, fun y hy => by rw [scoreWrong_other hy, hteam]⟩
    rw [(scoreWrong_own d.team noted).1, hteam, hcopy]
  · exact ⟨hnotice, hsheet, fun y => by rw [hteam], by rw [hteam], fun y _ => by rw [hteam]⟩

/-- Settles O46. -/
theorem callAndJudgeDeadline : Obligations.CallAndJudgeDeadline := by
  refine ⟨fun target head rest s hpowered hrunning htarget hle hladder => ?call,
    fun target d s hpowered hrunning htarget hle hcalled hladder => ?deadline⟩
  case call =>
    have hevent : callEvent s = endEvent s (callHead s) := if_pos ⟨hpowered, due_of_le hrunning htarget hle⟩
    refine congrArg Host.Outcome.next (hevent.trans ((endEvent_of_round (callHead_round s)).trans ?_))
    rw [callHead_of_cons hladder, lampWrite, State.queueOn_setNotice]
    rfl
  case deadline =>
    obtain ⟨hmem, hiscalled⟩ := calledClaim_eq_some hcalled
    have hevent : judgeDeadlineEvent s =
        endEvent s (timeOut d { s with clock := { s.clock with judgeDeadline := none } }) := by
      unfold judgeDeadlineEvent
      rw [if_pos ⟨hpowered, due_of_le hrunning htarget hle⟩, hcalled]
    obtain ⟨hnotice, hsheet, hstate, hscore, hothers⟩ := timedOut_records d s
    obtain ⟨hwent, hlock, hrecords, hseats, -, hentries, hnotices⟩ := verdict_spec hladder hmem hiscalled
      (timedOut_unmoved d s) hstate (if s.copy.timeoutAs = 0 then .wrong else .locked)
    have hkeeps := (timeOut_writes d { s with clock := { s.clock with judgeDeadline := none } }).keeps.trans
      (endEvent_keeps s _)
    have hframe : ContestFrame s _ :=
      ContestFrame.keeps (u := { s with clock := { s.clock with judgeDeadline := none } }) (.refl s) hkeeps
    rw [timeOut_eq] at hevent hframe
    generalize endEvent s (ladderGoesOn (verdictGiven d (if s.copy.timeoutAs = 0 then .wrong else .locked) (timedOut d s))) =
      w at *
    have hread (y : TeamNo) : (w.team y).score = ((timedOut d s).team y).score := by
      have e := congrArg Team.score (hrecords y); exact e
    exact ⟨w, congrArg Host.Outcome.next hevent, (hnotices .judgeTimeout (by decide) (by decide)).trans hnotice, hwent, hlock,
      (hread d.team).trans hscore, fun y hy => (hread y).trans (hothers y hy), hentries.trans hsheet, hseats, hframe⟩

end Sys2Proof.Machine
end

section
/-! PROOFS. Claims that leave the ladder without a verdict, and seats that lose their team: BENCH TEAM, UNBIND SEAT
(R14, R37, R118, R119). -/

namespace Sys2Proof.Machine

variable {c : Bool} {s t u v w x : State} {d gone : Claim} {i : SeatNo}

/-! ## A claim dropped (R118, R119) -/

theorem droppedClaim_seat (d : Claim) (x : State) (j : SeatNo) :
    (droppedClaim d x).seat j = { x.seat j with lamp := if j = d.seat then .idle else (x.seat j).lamp } := by
  have hlamp (y : State) (hy : y.seat = x.seat) : (lampWrite d.seat .idle y).seat j =
      { x.seat j with lamp := if j = d.seat then .idle else (x.seat j).lamp } := by
    rw [lampWrite_seat, hy]
    split
    · next e => rw [e]
    · rfl
  unfold droppedClaim
  split
  · exact hlamp (removeCalled d x) rfl
  · exact hlamp { x with ladder := x.ladder.filter (·.team ≠ d.team) } rfl

theorem droppedClaim_sending (d : Claim) (x : State) (n : LineNo) :
    ((droppedClaim d x).line n).sending = (x.line n).sending := by
  unfold droppedClaim
  split
  · exact lampWrite_sending d.seat .idle (removeCalled d x) n
  · exact lampWrite_sending d.seat .idle { x with ladder := x.ladder.filter (·.team ≠ d.team) } n

theorem droppedClaim_notice (d : Claim) (x : State) (k : Notice) :
    (droppedClaim d x).notice k = (x.notice k || (decide (k = .claimCancelled) && d.called)) := by
  unfold droppedClaim
  split
  · next hcalled =>
    rw [State.setNotice_notice_eq, hcalled, Bool.and_true, State.notice, lampWrite_notices]
    rfl
  · next hwaiting =>
    rw [State.notice, lampWrite_notices, Bool.not_eq_true _ |>.mp hwaiting, Bool.and_false, Bool.or_false]
    rfl

theorem droppedClaim_records (d : Claim) (x : State) :
    (droppedClaim d x).round = x.round ∧ (droppedClaim d x).standings = x.standings ∧
      (droppedClaim d x).sheet = x.sheet ∧ ∀ n, (droppedClaim d x).lineEnabled n = x.lineEnabled n := by
  unfold droppedClaim
  split
  · exact ⟨lampWrite_round _ _ _, lampWrite_standings _ _ _, lampWrite_sheet _ _ _, lampWrite_lineEnabled _ _ _⟩
  · exact ⟨lampWrite_round _ _ _, lampWrite_standings _ _ _, lampWrite_sheet _ _ _, lampWrite_lineEnabled _ _ _⟩

/-- The lamps once a claim has been dropped. -/
def droppedLamp (d : Claim) (s : State) (i : SeatNo) : Lamp := if i = d.seat then .idle else (s.seat i).lamp

/-- A dropped claim leaves the ladder about to go on without it. -/
theorem droppedClaim_rearming (hs : LadderInOrder s) (hd : d ∈ s.ladder) (hx : Unmoved s x)
    (hdeadline : x.clock.judgeDeadline = s.clock.judgeDeadline)
    (hstate : ∀ y, y ≠ d.team → (x.team y).state = (s.team y).state) :
    Rearming s (droppedClaim d x) (droppedLamp d s) := by
  obtain ⟨hround, -, -, henabled⟩ := droppedClaim_records d x
  have hclock := droppedClaim_clock d x
  refine ⟨?_, hround.trans hx.round, ?_, ?_, ?_, fun i => ?_, fun n => ?_, fun n => ?_⟩
  · refine hs.ready_of_removed hd (by rw [droppedClaim_ladder, hx.ladder]) (hround.trans hx.round) (fun y hy => ?_)
      (fun i y _ hi => ?_) ?_
    · rw [droppedClaim_team, hstate y hy]
    · rw [droppedClaim_seat]; exact (hx.seat i).2.trans hi
    · rw [hclock, ← hdeadline]; split <;> rfl
  · rw [hclock]
    refine Eq.trans ?_ hx.clock
    split <;> rfl
  · rw [hclock]
    split
    · exact .inl rfl
    · exact hx.deadline
  · rw [droppedClaim_notice]
    refine Eq.trans ?_ hx.called
    rw [decide_eq_false (by decide), Bool.false_and, Bool.or_false]
  · rw [droppedClaim_seat, droppedLamp, (hx.seat i).1]
  · rw [droppedClaim_sending, hx.sending]
  · rw [henabled, hx.enabled]

/-- What dropping a claim leaves of the device when the ladder has gone on. -/
theorem dropClaim_records (d : Claim) (x : State) :
    (∀ y, { (dropClaim d x).team y with locked := false } = { x.team y with locked := false }) ∧
      (∀ i, { (dropClaim d x).seat i with locked := false, lamp := .idle } =
        { x.seat i with locked := false, lamp := .idle }) ∧
      (dropClaim d x).standings = x.standings ∧ (dropClaim d x).sheet = x.sheet ∧
      ∀ k, k ≠ .claimCalled → k ≠ .roundClosed →
        (dropClaim d x).notice k = (x.notice k || (decide (k = .claimCancelled) && d.called)) := by
  obtain ⟨-, hstandings, hsheet, -⟩ := droppedClaim_records d x
  obtain ⟨hteams, hseats, hlist, hentries⟩ := ladderGoesOn_records (droppedClaim d x)
  rw [dropClaim_eq]
  refine ⟨fun y => ?_, fun i => ?_, hlist.trans hstandings, hentries.trans hsheet, fun k hcalled hclosed => ?_⟩
  · rw [hteams, droppedClaim_team]
  · rw [hseats, droppedClaim_seat]
  · rw [ladderGoesOn_notice hcalled hclosed, droppedClaim_notice]

theorem dropClaim_goes (hs : LadderInOrder s) (hd : d ∈ s.ladder) (hx : Unmoved s x)
    (hdeadline : x.clock.judgeDeadline = s.clock.judgeDeadline)
    (hstate : ∀ y, y ≠ d.team → (x.team y).state = (s.team y).state) :
    LadderGoes s (dropClaim d x) d (droppedLamp d s) := by
  rw [dropClaim_eq]
  exact (droppedClaim_rearming hs hd hx hdeadline hstate).goes (by rw [droppedClaim_ladder, hx.ladder])

/-! ## BENCH TEAM of a team with a claim (R14) -/

/-- Settles O29. -/
theorem benchDropsTheClaim : Obligations.BenchDropsTheClaim := by
  intro c t d s hs hactive hclaim
  let u := received c (.benchTeam (byte t.val)) s
  let x := setTeamState t .benched u
  obtain ⟨hmem, hteam⟩ := claimOf_eq_some hclaim
  have hreceived := Unmoved.received c (.benchTeam (byte t.val)) s
  have hx : Unmoved s x := hreceived.trans (.setTeam u t _)
  have hbench : benchTeam t u = dropClaim d x := by
    have hclaim : x.claimOf t = some d := (received_claimOf c _ s t).trans hclaim
    unfold benchTeam dropTeamClaim
    rw [hclaim]
  have hserve : serveBenchTeam (byte t.val) u = (endEvent s (dropClaim d x), Status.done.bare) := by
    have hstate : (u.team t).state = .active := by rw [received_team]; exact hactive
    simp only [serveBenchTeam, teamArg_byte, hstate, if_true, hbench]
    rw [endEvent_congr hreceived.roundActive]
  have hxteam (y : TeamNo) : x.team y = if y = t then { s.team t with state := .benched } else s.team y := by
    refine (State.setTeam_team u t y { u.team t with state := .benched }).trans ?_
    rw [received_team, received_team]
  have hkept : ContestKeeps x (endEvent s (dropClaim d x)) := (dropClaim_writes d x).keeps.trans (endEvent_keeps s _)
  have houtside : (endEvent s (dropClaim d x)).outsideContest = u.outsideContest := hkept.outside.trans rfl
  have hframe : ContestFrame s (endEvent s (dropClaim d x)) := by
    have hbase : ContestFrame s x := by
      obtain ⟨-, hseats, hlines, hboards, hrest⟩ := received_contestFrame c (.benchTeam (byte t.val)) s
      refine ⟨fun y => ?_, hseats, hlines, hboards, hrest⟩
      rw [hxteam]; split
      · next e => rw [e]
      · rfl
    exact hbase.keeps hkept
  obtain ⟨hteams, hseats, hstandings, hsheet, hnotices⟩ := dropClaim_records d x
  have hladder (e : Claim) (he : e ∈ (endEvent s (dropClaim d x)).ladder) : e.team ≠ t := by
    rw [endEvent_ladder] at he
    rw [← hteam]
    exact dropClaim_team_ne he
  have hwent (hs : LadderInOrder s) := (dropClaim_goes hs hmem hx (congrArg Clock.judgeDeadline (received_clock c _ s))
    fun y hy => by rw [hxteam, if_neg (hteam ▸ hy)]).wentOn
  have hwteam (y : TeamNo) : { (endEvent s (dropClaim d x)).team y with locked := false } =
      { x.team y with locked := false } := by rw [endEvent_team, hteams]
  have hwseat (i : SeatNo) : ((endEvent s (dropClaim d x)).seat i).team = (s.seat i).team := by
    have e := congrArg Seat.team (hseats i)
    rw [endEvent_seat]
    exact Eq.trans e (by rw [← received_seat c (.benchTeam (byte t.val)) s i]; rfl)
  have hwnotice : (endEvent s (dropClaim d x)).notice .claimCancelled = (s.notice .claimCancelled || d.called) := by
    have e := hnotices .claimCancelled (by decide) (by decide)
    have hsame : x.notice .claimCancelled = s.notice .claimCancelled := by
      have hnotices : x.notices = s.notices := received_notices c _ s
      rw [State.notice, hnotices]; rfl
    rw [decide_eq_true rfl, Bool.true_and, hsame] at e
    rw [State.notice, endEvent_notices]
    exact e
  have hwstandings : (endEvent s (dropClaim d x)).standings = s.standings := by
    rw [endEvent_standings, hstandings]; exact received_standings c _ s
  have hwsheet : (endEvent s (dropClaim d x)).sheet = s.sheet := by
    rw [endEvent_sheet, hsheet]; exact received_sheet c _ s
  generalize endEvent s (dropClaim d x) = w at *
  have hexec := exec_of_served (i := .benchTeam c (byte t.val)) (r := .benchTeam (byte t.val)) (t := w) (status := .done)
    (data := []) rfl rfl hs (by rw [serve, hserve]; rfl) (inProcess_of_contest houtside)
  have hscore (y : TeamNo) : (w.team y).score = (s.team y).score := by
    have e := congrArg Team.score (hwteam y)
    refine Eq.trans e ?_
    rw [hxteam]; split
    · next h => rw [h]
    · rfl
  have hstate (y : TeamNo) : (w.team y).state = (if y = t then { s.team t with state := .benched } else s.team y).state := by
    have e := congrArg Team.state (hwteam y)
    exact Eq.trans e (by rw [hxteam])
  refine ⟨_, hexec, (hstate t).trans (by rw [if_pos rfl]), hladder, fun hcalled => hwnotice.trans (by rw [hcalled, Bool.or_true]),
    fun hwaiting => hwnotice.trans (by rw [hwaiting, Bool.or_false]), hscore,
    fun y hy => (hstate y).trans (by rw [if_neg hy]), hwstandings, hwsheet, hwseat, hframe, hwent⟩

end Sys2Proof.Machine
end

section
/-! PROOFS. A seat that loses its team: UNBIND SEAT (R37, R118, R119). -/

namespace Sys2Proof.Machine

variable {c : Bool} {s t u v w x : State} {d gone : Claim} {i : SeatNo}

/-! ## The records of an unbound seat (R37) -/

/-- The record of a seat that has lost its team. -/
def Seat.freed (v : Seat) : Seat := { v with team := none, locked := false, lamp := .idle }

/-- What an unbinding writes once the seat's claim is gone: answer, lock, lamp and team. -/
def seatFreed (i : SeatNo) (x : State) : State :=
  ((x.setSeat i (x.seat i).freed).setEntry i none).queueOn (lineOf i) (·.queueLamp (localOf i) .idle)

theorem State.queueOn_setSeat (x : State) (n : LineNo) (f : Line → Line) (i : SeatNo) (v : Seat) :
    (x.queueOn n f).setSeat i v = (x.setSeat i v).queueOn n f := by
  unfold State.queueOn
  rw [State.setSeat_lineEnabled]
  split <;> rfl

theorem State.setSeat_setSeat (x : State) (i : SeatNo) (v v' : Seat) : (x.setSeat i v).setSeat i v' = x.setSeat i v' :=
  congrArg (fun seats => { x with seats }) (Vector.set_set ..)

/-- The unbinding of a bound seat: its claim, then its records (R37). -/
theorem unbindSeat_of_bound (h : (u.seat i).team.isSome = true) : unbindSeat i u = seatFreed i (dropSeatClaim i u) := by
  have hbound : ¬ (u.seat i).team.isNone = true := by
    cases hteam : (u.seat i).team with
    | none => rw [hteam] at h; cases h
    | some => simp
  unfold unbindSeat
  rw [if_neg hbound]
  dsimp only [lampWrite]
  generalize dropSeatClaim i u = y
  rw [State.queueOn_setSeat, State.queueOn_seat, State.setSeat_setSeat, State.setSeat_setSeat, State.setSeat_seat_same,
    State.setSeat_seat_same]
  rfl

theorem unbindSeat_of_unbound (h : (u.seat i).team = none) : unbindSeat i u = u := if_pos (by rw [h]; rfl)

theorem dropSeatClaim_of_none (h : ∀ e ∈ u.ladder, e.seat ≠ i) : dropSeatClaim i u = u := by
  have hnone : u.ladder.find? (·.seat = i) = none := by simpa [List.find?_eq_none] using h
  unfold dropSeatClaim
  rw [hnone]

theorem dropSeatClaim_of_some (h : u.ladder.find? (·.seat = i) = some d) : dropSeatClaim i u = dropClaim d u := by
  unfold dropSeatClaim
  rw [h]

theorem seatFreed_seat (i : SeatNo) (x : State) (j : SeatNo) :
    (seatFreed i x).seat j = if j = i then (x.seat i).freed else x.seat j := by
  rw [seatFreed, State.queueOn_seat, State.setEntry_seat, State.setSeat_seat]

theorem seatFreed_entry (i : SeatNo) (x : State) (j : SeatNo) :
    (seatFreed i x).entry j = if j = i then none else x.entry j := by
  have e := congrArg (State.entry · j)
    (State.queueOn_frame ((x.setSeat i (x.seat i).freed).setEntry i none) (lineOf i) (·.queueLamp (localOf i) .idle))
  refine Eq.trans e ?_
  exact State.setEntry_entry (x.setSeat i (x.seat i).freed) i j none

/-- The records of a seat, its answer and its line are all that its unbinding writes beside the claim. -/
theorem seatFreed_rest (i : SeatNo) (x : State) :
    { seatFreed i x with seats := x.seats, lines := x.lines, sheet := x.sheet } = x := by
  have e := congrArg (fun y : State => { y with seats := x.seats, lines := x.lines, sheet := x.sheet })
    (State.queueOn_frame ((x.setSeat i (x.seat i).freed).setEntry i none) (lineOf i) (·.queueLamp (localOf i) .idle))
  exact e

theorem seatFreed_sending (i : SeatNo) (x : State) (n : LineNo) : ((seatFreed i x).line n).sending = (x.line n).sending := by
  rw [seatFreed, State.queueOn_line]
  split
  · next h => rw [h.1]; rfl
  · rfl

/-- The lamp that an unbinding writes. -/
def freedLamp (i j : SeatNo) : Option Lamp := if j = i then some .idle else none

theorem seatFreed_relit (i : SeatNo) (x : State) : Relit (freedLamp i) x (seatFreed i x) where
  ladder := by have e := congrArg State.ladder (seatFreed_rest i x); exact e
  round := by have e := congrArg State.round (seatFreed_rest i x); exact e
  clock := by have e := congrArg State.clock (seatFreed_rest i x); exact e
  called := by have e := congrArg (State.notice · .claimCalled) (seatFreed_rest i x); exact e
  closed := by have e := congrArg (State.notice · .roundClosed) (seatFreed_rest i x); exact e
  teamLock y h := by
    have e := congrArg (fun y' : State => (y'.team y).locked) (seatFreed_rest i x)
    exact Eq.trans e h
  seatLock j h := by
    rw [seatFreed_seat]
    split
    · rfl
    · exact h
  sending := seatFreed_sending i x
  enabled n := by have e := congrArg (State.lineEnabled · n) (seatFreed_rest i x); exact e
  lamp j := by
    rw [seatFreed_seat, freedLamp]
    split <;> rfl

/-! ## UNBIND SEAT -/

/-- Settles O33. -/
theorem unbindSeatUnbinds : Obligations.UnbindSeatUnbinds := by
  intro c i s hs u
  have hreceived : Unmoved s u := .received c _ s
  have hseat (j : SeatNo) : u.seat j = s.seat j := received_seat c _ s j
  have hserve (hbound : (s.seat i).team.isSome = true) : serveUnbindSeat (byte i.val) u =
      (endEvent s (unbindSeat i u), Status.done.bare) := by
    have hnot : ¬ (u.seat i).team.isNone = true := by
      rw [hseat]; cases hteam : (s.seat i).team with
      | none => rw [hteam] at hbound; cases hbound
      | some => simp
    simp only [serveUnbindSeat, seatArg_byte, if_neg hnot]
    rw [endEvent_congr hreceived.roundActive]
  have hfreed (hbound : (s.seat i).team.isSome = true) : unbindSeat i u = seatFreed i (dropSeatClaim i u) :=
    unbindSeat_of_bound (by rw [hseat]; exact hbound)
  have hkept : ContestKeeps u (endEvent s (unbindSeat i u)) := (unbindSeat_writes i u).keeps.trans (endEvent_keeps s _)
  have hexec (hbound : (s.seat i).team.isSome = true) : exec (.unbindSeat c (byte i.val)) s =
      .next (answered c .done [] (endEvent s (unbindSeat i u))) :=
    exec_of_served rfl rfl hs (by rw [serve, hserve hbound]; rfl) (inProcess_of_contest hkept.outside)
  refine ⟨fun hbound hnone => ?plain, fun hunbound => ?unbound, fun d hbound hclaim => ?claim⟩
  case plain =>
    have hdropped : dropSeatClaim i u = u := dropSeatClaim_of_none (by rw [hreceived.ladder]; exact hnone)
    have hround : (seatFreed i u).round = s.round := ((seatFreed_relit i u).round).trans hreceived.round
    rw [hexec hbound, hfreed hbound, hdropped, endEvent_of_round hround, seatFreed, hseat]
    rfl
  case unbound =>
    have hserve : serveUnbindSeat (byte i.val) u = (u, Status.done.bare) := by
      simp only [serveUnbindSeat, seatArg_byte, hseat, hunbound]
      rfl
    exact exec_of_served rfl rfl hs (by rw [serve, hserve]; rfl) (received_inProcess c _ s)
  case claim =>
    have hfind : u.ladder.find? (·.seat = i) = some d := by rw [hreceived.ladder]; exact hclaim
    have hunbound : unbindSeat i u = seatFreed i (dropClaim d u) := by
      rw [hfreed hbound, dropSeatClaim_of_some hfind]
    have hmem : d ∈ s.ladder := List.mem_of_find?_eq_some hclaim
    have hdi : d.seat = i := by simpa using List.find?_some hclaim
    obtain ⟨hteams, hseats, hstandings, hsheet, hnotices⟩ := dropClaim_records d u
    have hrelit := seatFreed_relit i (dropClaim d u)
    have hrest := seatFreed_rest i (dropClaim d u)
    have hwseat (j : SeatNo) : (endEvent s (unbindSeat i u)).seat j =
        if j = i then { s.seat i with team := none, locked := false, lamp := .idle } else (dropClaim d u).seat j := by
      rw [endEvent_seat, hunbound, seatFreed_seat]
      split
      · have e := congrArg Seat.freed (hseats i)
        rw [hseat] at e
        exact e
      · rfl
    have hwentry (j : SeatNo) : (endEvent s (unbindSeat i u)).entry j = if j = i then none else s.entry j := by
      rw [endEvent_entry, hunbound, seatFreed_entry, State.entry, hsheet, ← received_entry c (.unbindSeat (byte i.val)) s]
      rfl
    have hwnotice : (endEvent s (unbindSeat i u)).notice .claimCancelled = (s.notice .claimCancelled || d.called) := by
      have e := hnotices .claimCancelled (by decide) (by decide)
      rw [decide_eq_true rfl, Bool.true_and] at e
      have hsame : u.notice .claimCancelled = s.notice .claimCancelled := by
        rw [State.notice, received_notices]; rfl
      have hfreed := congrArg (State.notice · .claimCancelled) hrest
      rw [State.notice, endEvent_notices, hunbound]
      exact Eq.trans hfreed (e.trans (by rw [hsame]))
    have hwteam (y : TeamNo) : { (endEvent s (unbindSeat i u)).team y with locked := false } =
        { s.team y with locked := false } := by
      have e := congrArg (fun z : State => { z.team y with locked := false }) hrest
      rw [endEvent_team, hunbound]
      exact Eq.trans e ((hteams y).trans (by rw [received_team]))
    have hwstandings : (endEvent s (unbindSeat i u)).standings = s.standings := by
      have e := congrArg State.standings hrest
      rw [endEvent_standings, hunbound]
      exact Eq.trans e (hstandings.trans (received_standings c _ s))
    have hwladder (e : Claim) (he : e ∈ (endEvent s (unbindSeat i u)).ladder) : e.team ≠ d.team := by
      rw [endEvent_ladder, hunbound, hrelit.ladder] at he
      exact dropClaim_team_ne he
    have hwent (hs : LadderInOrder s) : LadderWentOn s (endEvent s (unbindSeat i u)) d
        fun j => if j = i then .idle else (s.seat j).lamp := by
      have hgoes := dropClaim_goes hs hmem hreceived (by rw [received_clock]) fun y _ => by rw [received_team]
      have hlamps : (fun j => (freedLamp i j).getD (droppedLamp d s j)) =
          fun j => if j = i then .idle else (s.seat j).lamp := by
        funext j
        rw [freedLamp, droppedLamp, hdi]
        split <;> rfl
      rw [hunbound, ← hlamps]
      refine (hgoes.relit hrelit fun e he hteam => ?_).wentOn
      refine if_neg fun hsame => hteam ?_
      have hown := (hs.ready.stands e he).2.symm
      rw [hsame, ← hdi, (hs.ready.stands d hmem).2] at hown
      exact Option.some.inj hown
    have hframe : ContestFrame s (endEvent s (unbindSeat i u)) := (received_contestFrame c _ s).keeps hkept
    have hexec := hexec hbound
    have hother (j : SeatNo) : ((dropClaim d u).seat j).team = (s.seat j).team := by
      have e := congrArg Seat.team (hseats j)
      exact Eq.trans e (by rw [hseat])
    generalize endEvent s (unbindSeat i u) = w at *
    refine ⟨_, hexec, hwladder, (hwseat i).trans (if_pos rfl), (hwentry i).trans (if_pos rfl), fun j hj => ⟨?_, ?_⟩,
      fun hcalled => hwnotice.trans (by rw [hcalled, Bool.or_true]),
      fun hwaiting => hwnotice.trans (by rw [hwaiting, Bool.or_false]), hwteam, hwstandings, hframe, hwent⟩
    · have e := congrArg Seat.team ((hwseat j).trans (if_neg hj))
      exact Eq.trans e (hother j)
    · exact (hwentry j).trans (if_neg hj)

end Sys2Proof.Machine
end

section
/-! PROOFS. RETIRE TEAM: the claim dropped, every seat unbound, and the Standings without the team (R17 to R19). -/

namespace Sys2Proof.Machine

variable {c : Bool} {s t u v w x y : State} {d gone : Claim} {i : SeatNo}

/-! ## Seats unbound one after the other (R19, R37) -/

/-- What unbinding a bound seat leaves of every seat. -/
theorem unbindSeat_records (hbound : (x.seat i).team.isSome = true) :
    ((unbindSeat i x).seat i).team = none ∧ ((unbindSeat i x).seat i).locked = false ∧ (unbindSeat i x).entry i = none ∧
      (∀ j, j ≠ i → ((unbindSeat i x).seat j).team = (x.seat j).team ∧ (unbindSeat i x).entry j = x.entry j) ∧
      (∀ j, (x.seat j).locked = false → ((unbindSeat i x).seat j).locked = false) ∧
      (∀ z, { (unbindSeat i x).team z with locked := false } = { x.team z with locked := false }) ∧
      ∀ e ∈ (unbindSeat i x).ladder, ∃ e' ∈ x.ladder, e'.team = e.team := by
  have hdropped : (∀ j, ((dropSeatClaim i x).seat j).team = (x.seat j).team) ∧ (dropSeatClaim i x).sheet = x.sheet ∧
      (∀ j, (x.seat j).locked = false → ((dropSeatClaim i x).seat j).locked = false) ∧
      (∀ z, { (dropSeatClaim i x).team z with locked := false } = { x.team z with locked := false }) ∧
      ∀ e ∈ (dropSeatClaim i x).ladder, ∃ e' ∈ x.ladder, e'.team = e.team := by
    unfold dropSeatClaim
    split
    · next e _ =>
      obtain ⟨hteams, hseats, -, hsheet, -⟩ := dropClaim_records e x
      refine ⟨fun j => ?_, hsheet, fun j hj => ?_, hteams, fun f hf => ?_⟩
      · have e := congrArg Seat.team (hseats j); exact e
      · rw [dropClaim_eq]
        have hlock : ((droppedClaim e x).seat j).locked = false := by rw [droppedClaim_seat]; exact hj
        unfold ladderGoesOn
        split
        · rw [closeRound_seat]
        · obtain ⟨lamp, hlamp⟩ := rearmCall_seat (droppedClaim e x) j
          rw [hlamp]; exact hlock
      · rw [dropClaim_eq] at hf
        obtain ⟨g, hg, hteam, -⟩ := mem_ladderGoesOn hf
        rw [droppedClaim_ladder] at hg
        exact ⟨g, (List.mem_filter.mp hg).1, hteam⟩
    · exact ⟨fun _ => rfl, rfl, fun _ h => h, fun _ => rfl, fun f hf => ⟨f, hf, rfl⟩⟩
  obtain ⟨hseats, hsheet, hlocks, hteams, hladder⟩ := hdropped
  have hrest := seatFreed_rest i (dropSeatClaim i x)
  rw [unbindSeat_of_bound hbound]
  refine ⟨?_, ?_, ?_, fun j hj => ⟨?_, ?_⟩, fun j hj => ?_, fun z => ?_, fun e he => ?_⟩
  · rw [seatFreed_seat, if_pos rfl]; rfl
  · rw [seatFreed_seat, if_pos rfl]; rfl
  · rw [seatFreed_entry, if_pos rfl]
  · rw [seatFreed_seat, if_neg hj, hseats]
  · rw [seatFreed_entry, if_neg hj, State.entry, hsheet]; rfl
  · exact (seatFreed_relit i _).seatLock j (hlocks j hj)
  · have e := congrArg (fun q : State => { q.team z with locked := false }) hrest
    exact Eq.trans e (hteams z)
  · rw [(seatFreed_relit i (dropSeatClaim i x)).ladder] at he
    exact hladder e he

/-- What unbinding several bound seats leaves of every seat. -/
theorem unbindSeats_records {seats : List SeatNo} (hnodup : seats.Nodup)
    (hbound : ∀ i ∈ seats, (x.seat i).team.isSome = true) :
    let w := seats.foldl (fun s i => unbindSeat i s) x
    (∀ i ∈ seats, (w.seat i).team = none ∧ (w.seat i).locked = false ∧ w.entry i = none) ∧
      (∀ i, i ∉ seats → (w.seat i).team = (x.seat i).team ∧ w.entry i = x.entry i) ∧
      (∀ i, (x.seat i).locked = false → (w.seat i).locked = false) ∧
      (∀ z, { w.team z with locked := false } = { x.team z with locked := false }) ∧
      ∀ e ∈ w.ladder, ∃ e' ∈ x.ladder, e'.team = e.team := by
  induction seats generalizing x with
  | nil =>
    exact ⟨fun i hi => absurd hi List.not_mem_nil, fun _ _ => ⟨rfl, rfl⟩, fun _ h => h, fun _ => rfl, fun e he => ⟨e, he, rfl⟩⟩
  | cons i seats ih =>
    obtain ⟨hnot, hnodup⟩ := List.nodup_cons.mp hnodup
    obtain ⟨hteam, hlock, hentry, hothers, hlocks, hteams, hladder⟩ := unbindSeat_records (hbound i (.head _))
    have hne {j : SeatNo} (hj : j ∈ seats) : j ≠ i := fun e => hnot (e ▸ hj)
    obtain ⟨kin, kout, klocks, kteams, kladder⟩ := ih (x := unbindSeat i x) hnodup fun j hj => by
      rw [(hothers j (hne hj)).1]; exact hbound j (.tail _ hj)
    simp only [List.foldl_cons]
    refine ⟨fun j hj => ?_, fun j hj => ?_, fun j hj => klocks j (hlocks j hj), fun z => (kteams z).trans (hteams z),
      fun e he => ?_⟩
    · rcases List.mem_cons.mp hj with rfl | hj
      · obtain ⟨kteam, kentry⟩ := kout j hnot
        exact ⟨kteam.trans hteam, klocks j hlock, kentry.trans hentry⟩
      · exact kin j hj
    · obtain ⟨hji, hj⟩ : j ≠ i ∧ j ∉ seats := by simpa [not_or] using hj
      obtain ⟨kteam, kentry⟩ := kout j hj
      exact ⟨kteam.trans (hothers j hji).1, kentry.trans (hothers j hji).2⟩
    · obtain ⟨e', he', hteam'⟩ := kladder e he
      obtain ⟨e'', he'', hteam''⟩ := hladder e' he'
      exact ⟨e'', he'', hteam''.trans hteam'⟩

/-- The lamps that unbinding several seats writes. -/
def freedLamps (seats : List SeatNo) (j : SeatNo) : Option Lamp := if j ∈ seats then some .idle else none

theorem Relit.refl (x : State) : Relit (fun _ => none) x x :=
  ⟨rfl, rfl, rfl, rfl, rfl, fun _ h => h, fun _ h => h, fun _ => rfl, fun _ => rfl, fun _ => rfl⟩

theorem Relit.trans {f g : SeatNo → Option Lamp} (h : Relit f t u) (k : Relit g u v) :
    Relit (fun i => (g i).or (f i)) t v where
  ladder := k.ladder.trans h.ladder
  round := k.round.trans h.round
  clock := k.clock.trans h.clock
  called := k.called.trans h.called
  closed := k.closed.trans h.closed
  teamLock y e := k.teamLock y (h.teamLock y e)
  seatLock i e := k.seatLock i (h.seatLock i e)
  sending n := (k.sending n).trans (h.sending n)
  enabled n := (k.enabled n).trans (h.enabled n)
  lamp i := by
    rw [k.lamp, h.lamp]
    cases g i <;> rfl

/-- Seats that hold no claim are unbound without a word to the ladder (R37). -/
theorem unbindSeats_relit {seats : List SeatNo} (hnodup : seats.Nodup)
    (hbound : ∀ i ∈ seats, (x.seat i).team.isSome = true) (hclaims : ∀ e ∈ x.ladder, e.seat ∉ seats) :
    let w := seats.foldl (fun s i => unbindSeat i s) x
    Relit (freedLamps seats) x w ∧ w.notices = x.notices := by
  induction seats generalizing x with
  | nil => exact ⟨.refl x, rfl⟩
  | cons i seats ih =>
    obtain ⟨hnot, hnodup⟩ := List.nodup_cons.mp hnodup
    have hfreed : unbindSeat i x = seatFreed i x := by
      rw [unbindSeat_of_bound (hbound i (.head _)),
        dropSeatClaim_of_none fun e he hi => hclaims e he (hi ▸ List.mem_cons_self ..)]
    have hrelit := seatFreed_relit i x
    obtain ⟨krelit, knotices⟩ := ih (x := seatFreed i x) hnodup
      (fun j hj => by
        rw [seatFreed_seat, if_neg fun e : j = i => hnot (e ▸ hj)]; exact hbound j (.tail _ hj))
      (fun e he hmem => hclaims e (hrelit.ladder ▸ he) (.tail _ hmem))
    have hlamps : (fun j => (freedLamps seats j).or (freedLamp i j)) = freedLamps (i :: seats) := by
      funext j
      simp only [freedLamps, freedLamp, List.mem_cons]
      by_cases hj : j ∈ seats
      · simp [hj]
      · by_cases hji : j = i
        · simp [hji, hji ▸ hj]
        · simp [hj, hji]
    have hnotices : (seatFreed i x).notices = x.notices := by
      have e := congrArg State.notices (seatFreed_rest i x); exact e
    simp only [List.foldl_cons]
    rw [hfreed, ← hlamps]
    exact ⟨hrelit.trans krelit, knotices.trans hnotices⟩

/-! ## A team about to retire: its claim dropped, its seats unbound (R17, R18) -/

theorem mem_members {y : TeamNo} : i ∈ x.members y ↔ (x.seat i).team = some y := by
  simp [State.members, allSeats]

theorem members_nodup (x : State) (y : TeamNo) : (x.members y).Nodup := (List.nodup_finRange 128).filter _

/-- The state of a retirement before its record and the Standings. -/
def unboundTeam (y : TeamNo) (x : State) : State := unbindMembers y (dropTeamClaim y x)

theorem dropTeamClaim_of_none {y : TeamNo} (h : x.claimOf y = none) : dropTeamClaim y x = x := by
  unfold dropTeamClaim
  rw [h]

theorem dropTeamClaim_of_some {y : TeamNo} (h : x.claimOf y = some d) : dropTeamClaim y x = dropClaim d x := by
  unfold dropTeamClaim
  rw [h]

/-- What dropping a team's claim leaves of the records that its seats are unbound by. -/
theorem dropTeamClaim_records (y : TeamNo) (x : State) :
    (∀ i, ((dropTeamClaim y x).seat i).team = (x.seat i).team) ∧ (dropTeamClaim y x).sheet = x.sheet ∧
      (∀ z, { (dropTeamClaim y x).team z with locked := false } = { x.team z with locked := false }) ∧
      ∀ e ∈ (dropTeamClaim y x).ladder, e.team ≠ y := by
  cases hclaim : x.claimOf y with
  | none =>
    rw [dropTeamClaim_of_none hclaim]
    exact ⟨fun _ => rfl, rfl, fun _ => rfl, claimOf_eq_none.mp hclaim⟩
  | some d =>
    obtain ⟨hteams, hseats, -, hsheet, -⟩ := dropClaim_records d x
    rw [dropTeamClaim_of_some hclaim]
    refine ⟨fun j => ?_, hsheet, hteams, fun e he => ?_⟩
    · have e := congrArg Seat.team (hseats j); exact e
    · rw [← (claimOf_eq_some hclaim).2]; exact dropClaim_team_ne he

theorem dropTeamClaim_members (y : TeamNo) (x : State) : (dropTeamClaim y x).members y = x.members y := by
  simp only [State.members, (dropTeamClaim_records y x).1]

theorem unboundTeam_records (y : TeamNo) (x : State) :
    (∀ i, (x.seat i).team = some y → ((unboundTeam y x).seat i).team = none ∧
      ((unboundTeam y x).seat i).locked = false ∧ (unboundTeam y x).entry i = none) ∧
    (∀ i, (x.seat i).team ≠ some y → ((unboundTeam y x).seat i).team = (x.seat i).team ∧
      (unboundTeam y x).entry i = x.entry i) ∧
    (∀ z, { (unboundTeam y x).team z with locked := false } = { x.team z with locked := false }) ∧
    ∀ e ∈ (unboundTeam y x).ladder, e.team ≠ y := by
  obtain ⟨hseats, hsheet, hteams, hladder⟩ := dropTeamClaim_records y x
  obtain ⟨kin, kout, -, kteams, kladder⟩ := unbindSeats_records (members_nodup (dropTeamClaim y x) y)
    fun i hi => by rw [mem_members.mp hi]; rfl
  refine ⟨fun i hi => kin i (mem_members.mpr ((hseats i).trans hi)), fun i hi => ?_, fun z => (kteams z).trans (hteams z),
    fun e he => ?_⟩
  · obtain ⟨hteam, hentry⟩ := kout i fun hmem => hi ((hseats i).symm.trans (mem_members.mp hmem))
    exact ⟨hteam.trans (hseats i), hentry.trans (by rw [State.entry, hsheet]; rfl)⟩
  · obtain ⟨e', he', hteam⟩ := kladder e he
    rw [← hteam]
    exact hladder e' he'

/-- With no claim of the team on the ladder, its seats are unbound and nothing of the ladder moves. -/
theorem unboundTeam_relit {y : TeamNo} (hclaims : ∀ e ∈ (dropTeamClaim y x).ladder, (x.seat e.seat).team ≠ some y) :
    Relit (freedLamps (x.members y)) (dropTeamClaim y x) (unboundTeam y x) ∧
      (unboundTeam y x).notices = (dropTeamClaim y x).notices := by
  have hmembers := dropTeamClaim_members y x
  rw [← hmembers]
  refine unbindSeats_relit (members_nodup _ _) (fun i hi => by rw [mem_members.mp hi]; rfl) fun e he hmem => ?_
  exact hclaims e he (mem_members.mp (hmembers ▸ hmem))

/-! ## The record of a retired team (R18, R19) -/

/-- The retirement's last write: the record, and the Standings without the team. -/
def retired (y : TeamNo) (x : State) : State :=
  updateStandings (x.setTeam y { x.team y with state := .retired, locked := false })

theorem retireTeam_eq (y : TeamNo) (x : State) : retireTeam y x = retired y (unboundTeam y x) := rfl

theorem retired_team_same (y : TeamNo) (x : State) :
    (retired y x).team y = { x.team y with state := .retired, locked := false, rank := none } := by
  have hrecord := State.setTeam_team x y y { x.team y with state := .retired, locked := false }
  rw [if_pos rfl] at hrecord
  rw [retired, updateStandings_team, State.rankOf, hrecord]
  rfl

theorem retired_team_of_ne {y z : TeamNo} (h : z ≠ y) (x : State) :
    ∃ rank, (retired y x).team z = { x.team z with rank } := by
  rw [retired, updateStandings_team, State.setTeam_team, if_neg h]
  exact ⟨_, rfl⟩

theorem retired_not_mem (y : TeamNo) (x : State) : y ∉ (retired y x).standings := by
  rw [retired, updateStandings_standings, mem_sortedTeams, State.setTeam_team, if_pos rfl]
  exact Bool.false_ne_true

theorem retired_outside (y : TeamNo) (x : State) : (retired y x).outsideScores = x.outsideScores :=
  updateStandings_frame (x.setTeam y { x.team y with state := .retired, locked := false })

theorem retired_notices (y : TeamNo) (x : State) : (retired y x).notices = x.notices := updateStandings_notices _

theorem retired_relit (y : TeamNo) (x : State) : Relit (fun _ => none) x (retired y x) := by
  have hframe := retired_outside y x
  refine ⟨?_, ?_, ?_, ?_, ?_, fun z hz => ?_, fun i hi => ?_, fun n => ?_, fun n => ?_, fun i => ?_⟩
  · have e := congrArg State.ladder hframe; exact e
  · have e := congrArg State.round hframe; exact e
  · have e := congrArg State.clock hframe; exact e
  · rw [State.notice, retired_notices]; rfl
  · rw [State.notice, retired_notices]; rfl
  · by_cases h : z = y
    · rw [h, retired_team_same]
    · obtain ⟨rank, e⟩ := retired_team_of_ne h x
      rw [e]; exact hz
  · rw [State.seat_of_scores hframe]; exact hi
  · rw [State.line_of_scores hframe]
  · have e := congrArg (State.lineEnabled · n) hframe; exact e
  · rw [State.seat_of_scores hframe]; rfl

theorem ContestFrame.retired {y : TeamNo} (h : ContestFrame s x) : ContestFrame s (retired y x) := by
  obtain ⟨hlabel, hpresence, hreceiving, hboards, hrest⟩ := h
  have hframe := retired_outside y x
  refine ⟨fun z => ?_, fun i => ?_, fun n => ?_, fun b => ?_, ?_⟩
  · rw [← hlabel z]
    by_cases hz : z = y
    · rw [hz, retired_team_same]
    · obtain ⟨rank, e⟩ := retired_team_of_ne hz x
      rw [e]
  · rw [State.seat_of_scores hframe]; exact hpresence i
  · rw [State.line_of_scores hframe]; exact hreceiving n
  · obtain ⟨hmessage, hlive, -⟩ :=
      updateStandings_board_keeps (s := x.setTeam y { x.team y with state := .retired, locked := false }) b
    exact ⟨hmessage.trans (hboards b).1, hlive.trans (hboards b).2⟩
  · have e := congrArg (fun z : State => { z with
      teams := s.teams, seats := s.seats, lines := s.lines, clock := s.clock, round := s.round, ladder := s.ladder
      sheet := s.sheet, standings := s.standings, boards := s.boards, notices := s.notices, answers := s.answers
      bus := s.bus, watchdog := s.watchdog, consoleLost := s.consoleLost }) hframe
    exact Eq.trans e hrest

/-! ## RETIRE TEAM -/

/-- The lamps once a team's seats are unbound. -/
def idledLamp (y : TeamNo) (s : State) (i : SeatNo) : Lamp := if (s.seat i).team = some y then .idle else (s.seat i).lamp

/-- With the ladder in order, a team's claim leaves it, its seats are unbound, and the other claims go on. -/
theorem retired_goes {y : TeamNo} (hs : LadderInOrder s) (hclaim : x.claimOf y = some d) (hx : Unmoved s x)
    (hdeadline : x.clock.judgeDeadline = s.clock.judgeDeadline) (hstate : ∀ z, (x.team z).state = (s.team z).state) :
    LadderGoes s (retired y (unboundTeam y x)) d (idledLamp y s) ∧
      (retired y (unboundTeam y x)).notice .claimCancelled = (d.called || x.notice .claimCancelled) := by
  obtain ⟨hmem, hteam⟩ := claimOf_eq_some hclaim
  rw [hx.ladder] at hmem
  have hstands := hs.ready.stands
  have hclaims : ∀ e ∈ (dropTeamClaim y x).ladder, (x.seat e.seat).team ≠ some y := fun e he hseat => by
    rw [dropTeamClaim_of_some hclaim] at he
    have hne := dropClaim_team_ne he
    rw [dropClaim_eq] at he
    obtain ⟨g, hg, hgteam, hgseat, -⟩ := mem_ladderGoesOn he
    rw [droppedClaim_ladder, hx.ladder] at hg
    have hown := (hstands g (List.mem_filter.mp hg).1).2
    rw [hgseat, hgteam, ← (hx.seat e.seat).2, hseat, ← hteam] at hown
    exact hne (Option.some.inj hown).symm
  obtain ⟨hrelit, hnotices⟩ := unboundTeam_relit hclaims
  have hgoes := dropClaim_goes hs hmem hx hdeadline fun z _ => hstate z
  rw [← dropTeamClaim_of_some hclaim] at hgoes
  have hvalue (j : SeatNo) : freedLamps (x.members y) j = if (s.seat j).team = some y then some .idle else none := by
    simp only [freedLamps, mem_members, (hx.seat j).2]
  have hlamps : (fun j => (freedLamps (x.members y) j).getD (droppedLamp d s j)) = idledLamp y s := by
    funext j
    rw [hvalue, idledLamp, droppedLamp]
    split
    · rfl
    · next hj =>
      refine if_neg fun e => hj ?_
      rw [e, (hstands d hmem).2, hteam]
  refine ⟨hlamps ▸ hgoes.relit (hrelit.trans (retired_relit y _)) fun e he hne => (hvalue _).trans (if_neg fun h => hne ?_), ?_⟩
  · rw [(hstands e he).2, ← hteam] at h
    exact Option.some.inj h
  · obtain ⟨-, -, -, -, hdropped⟩ := dropClaim_records d x
    rw [State.notice, retired_notices, hnotices, dropTeamClaim_of_some hclaim]
    refine (hdropped .claimCancelled (by decide) (by decide)).trans ?_
    rw [decide_eq_true rfl, Bool.true_and, Bool.or_comm]

/-- A team without a claim retires without a word to the ladder. -/
theorem retired_quiet {y : TeamNo} (hs : LadderInOrder s) (hclaim : x.claimOf y = none) (hx : Unmoved s x) :
    Relit (fun i => freedLamps (x.members y) i) x (retired y (unboundTeam y x)) ∧
      (retired y (unboundTeam y x)).notices = x.notices := by
  have hclaims : ∀ e ∈ (dropTeamClaim y x).ladder, (x.seat e.seat).team ≠ some y := fun e he hseat => by
    rw [dropTeamClaim_of_none hclaim] at he
    have hown := (hs.ready.stands e (hx.ladder ▸ he)).2
    rw [← (hx.seat e.seat).2, hseat] at hown
    exact claimOf_eq_none.mp hclaim e he (Option.some.inj hown).symm
  obtain ⟨hrelit, hnotices⟩ := unboundTeam_relit hclaims
  rw [dropTeamClaim_of_none hclaim] at hrelit hnotices
  exact ⟨hrelit.trans (retired_relit y _), (retired_notices y _).trans hnotices⟩

/-- Settles O30. -/
theorem retireClearsTheTeam : Obligations.RetireClearsTheTeam := by
  intro c t s hs hlisted idled
  let u := received c (.retireTeam (byte t.val)) s
  have hreceived : Unmoved s u := .received c _ s
  have hserve : serveRetireTeam (byte t.val) u = (endEvent s (retired t (unboundTeam t u)), Status.done.bare) := by
    have hstate : (u.team t).state.listed = true := by rw [received_team]; exact hlisted
    simp only [serveRetireTeam, teamArg_byte, hstate, if_true, retireTeam_eq]
    rw [endEvent_congr hreceived.roundActive]
  have hkept : ContestKeeps u (unboundTeam t u) :=
    (dropTeamClaim_writes t u).keeps.trans (unbindMembers_writes t (dropTeamClaim t u)).keeps
  have hframe : ContestFrame s (endEvent s (retired t (unboundTeam t u))) :=
    (((received_contestFrame c _ s).keeps hkept).retired).keeps (endEvent_keeps s _)
  have houtside : (endEvent s (retired t (unboundTeam t u))).outsideContest = u.outsideContest :=
    (endEvent_keeps s _).outside.trans ((State.outsideContest_of_scores (retired_outside t _)).trans hkept.outside)
  obtain ⟨hmembers, hothers, hteams, hladder⟩ := unboundTeam_records t u
  have hrelit := retired_relit t (unboundTeam t u)
  have hscores := retired_outside t (unboundTeam t u)
  have hwseat (i : SeatNo) : (endEvent s (retired t (unboundTeam t u))).seat i = (unboundTeam t u).seat i := by
    rw [endEvent_seat, State.seat_of_scores hscores]
  have hwentry (i : SeatNo) : (endEvent s (retired t (unboundTeam t u))).entry i = (unboundTeam t u).entry i := by
    rw [endEvent_entry, State.entry_of_scores hscores]
  have hwown : (endEvent s (retired t (unboundTeam t u))).team t =
      { s.team t with state := .retired, locked := false, rank := none } := by
    have e := congrArg (fun x : Team => { x with state := .retired, rank := none }) (hteams t)
    rw [endEvent_team, retired_team_same, ← received_team c (.retireTeam (byte t.val)) s t]
    exact e
  have hwteam (y : TeamNo) (hy : y ≠ t) : ((endEvent s (retired t (unboundTeam t u))).team y).state = (s.team y).state ∧
      ((endEvent s (retired t (unboundTeam t u))).team y).score = (s.team y).score := by
    obtain ⟨rank, e⟩ := retired_team_of_ne hy (unboundTeam t u)
    rw [endEvent_team, e, ← received_team c (.retireTeam (byte t.val)) s y]
    have hstate := congrArg Team.state (hteams y)
    have hscore := congrArg Team.score (hteams y)
    exact ⟨hstate, hscore⟩
  have hwladder (e : Claim) (he : e ∈ (endEvent s (retired t (unboundTeam t u))).ladder) : e.team ≠ t := by
    rw [endEvent_ladder, hrelit.ladder] at he
    exact hladder e he
  have hwstandings : t ∉ (endEvent s (retired t (unboundTeam t u))).standings := by
    rw [endEvent_standings]; exact retired_not_mem t _
  have hworder : StandingsInOrder (endEvent s (retired t (unboundTeam t u))) := by
    have horder : StandingsInOrder (retired t (unboundTeam t u)) := updateStandings_inOrder _
    refine StandingsKept.inOrder ⟨endEvent_standings _ _, fun x => ?_⟩ horder
    rw [endEvent_team]
    exact ⟨rfl, fun _ => rfl, rfl⟩
  have hwent (hs : LadderInOrder s) (d : Claim) (hclaim : s.claimOf t = some d) :
      LadderWentOn s (endEvent s (retired t (unboundTeam t u))) d idled ∧
        (endEvent s (retired t (unboundTeam t u))).notice .claimCancelled = (d.called || s.notice .claimCancelled) := by
    obtain ⟨hgoes, hnotice⟩ := retired_goes hs ((received_claimOf c _ s t).trans hclaim) hreceived
      (by rw [received_clock]) fun z => by rw [received_team]
    refine ⟨hgoes.wentOn, ?_⟩
    rw [State.notice, endEvent_notices]
    refine Eq.trans hnotice ?_
    rw [State.notice, received_notices]; rfl
  have hwquiet (hs : LadderInOrder s) (hclaim : s.claimOf t = none) :
      (endEvent s (retired t (unboundTeam t u))).ladder = s.ladder ∧
      (endEvent s (retired t (unboundTeam t u))).round = s.round ∧
      (endEvent s (retired t (unboundTeam t u))).clock = s.clock ∧
      (endEvent s (retired t (unboundTeam t u))).notices = s.notices ∧
      ∀ i, ((endEvent s (retired t (unboundTeam t u))).seat i).lamp = idled i := by
    obtain ⟨hquiet, hnotices⟩ := retired_quiet hs ((received_claimOf c _ s t).trans hclaim) hreceived
    rw [endEvent_ladder, endEvent_round, endEvent_clock, endEvent_notices]
    refine ⟨hquiet.ladder.trans hreceived.ladder, hquiet.round.trans hreceived.round,
      hquiet.clock.trans (received_clock c _ s), hnotices.trans (received_notices c _ s), fun i => ?_⟩
    rw [endEvent_seat, hquiet.lamp]
    simp only [freedLamps, mem_members, received_seat, idled]
    split <;> rfl
  generalize endEvent s (retired t (unboundTeam t u)) = w at *
  have hexec := exec_of_served (i := .retireTeam c (byte t.val)) (r := .retireTeam (byte t.val)) (t := w) (status := .done)
    (data := []) rfl rfl hs (by rw [serve, hserve]; rfl) (inProcess_of_contest houtside)
  refine ⟨_, hexec, hwown, hwstandings, hwladder, hworder, fun i hi => ?_, fun i hi => ?_, hwteam, hframe,
    answers_of_contest houtside .done [], fun hs => ⟨hwent hs, hwquiet hs⟩⟩
  · have e := hmembers i (by rw [received_seat]; exact hi)
    rw [← hwseat, ← hwentry] at e
    exact e
  · have e := hothers i (by rw [received_seat]; exact hi)
    rw [← hwseat, ← hwentry, received_seat, received_entry] at e
    exact ⟨e.1, e.2, (hframe.2.1 i).1⟩

end Sys2Proof.Machine
end

section
/-! PROOFS. The take of a frame (R26, R28, R55) and the presses that the ladder and the sheet refuse (R29, R102, R125). -/

namespace Sys2Proof.Machine

variable {s x : State} {n : LineNo} {f : SeatFrame} {rest : List SeatFrame} {t : TeamNo}

/-! ## The state in which a press is handed on (R26, R28, R55) -/

/-- What the take of a frame writes before the hand-off: its line, and its seat's presence. -/
def frameTake (n : LineNo) (f : SeatFrame) (s : State) : State :=
  updatePresence f (s.setLine n ((s.line n).take (s.rule Rule.holdLower)))

theorem exec_take (hpower : s.powered = true) (hqueue : (s.line n).queue = f :: rest) :
    exec (.seatTableTake n) s = .next (endEvent s (handPress f (frameTake n f s))) := by
  have h : seatTableTake n s = endEvent s (handPress f (frameTake n f s)) := by
    unfold seatTableTake
    rw [hqueue]
    exact if_pos hpower
  exact congrArg Host.Outcome.next h

/-- The seat's record that a frame leaves (R26). -/
def SeatFrame.present (f : SeatFrame) (silenceLimit : Nat) (v : Seat) : Seat :=
  { v with presence := if f.kind = .leave then .absent else .present
           countdown := if f.kind = .leave then 0 else silenceLimit }

theorem updatePresence_eq (f : SeatFrame) (s : State) :
    updatePresence f s =
      (let v := f.present (s.rule Rule.silenceLimit) (s.seat f.seat)
      { s with seats := s.seats.set f.seat v
               notices := if v.presence = (s.seat f.seat).presence then s.notices else s.notices ||| 0x20#24 }) := by
  have hwrite (presence : Presence) (countdown : Nat) : writePresence f.seat presence countdown s =
      { s with seats := s.seats.set f.seat { s.seat f.seat with presence, countdown }
               notices := if presence = (s.seat f.seat).presence then s.notices else s.notices ||| 0x20#24 } := by
    unfold writePresence
    dsimp only
    split
    · next h => rw [if_pos h.symm]; rfl
    · next h => rw [if_neg (Ne.symm h)]; rfl
  unfold updatePresence SeatFrame.present
  cases f.kind <;> exact hwrite _ _

/-- Lines, the seat and the notices are all that the take of a frame writes. -/
theorem frameTake_rest (n : LineNo) (f : SeatFrame) (s : State) :
    { frameTake n f s with lines := s.lines, seats := s.seats, notices := s.notices } = s := by
  rw [frameTake, updatePresence_eq]; rfl

theorem frameTake_seat (n : LineNo) (f : SeatFrame) (s : State) (i : SeatNo) :
    (frameTake n f s).seat i = if i = f.seat then f.present (s.rule Rule.silenceLimit) (s.seat i) else s.seat i := by
  have hset : (s.setSeat f.seat (f.present (s.rule Rule.silenceLimit) (s.seat f.seat))).seat i =
      if i = f.seat then f.present (s.rule Rule.silenceLimit) (s.seat i) else s.seat i := by
    rw [State.setSeat_seat]
    split
    · next e => rw [e]
    · rfl
  rw [frameTake, updatePresence_eq]
  exact hset

theorem frameTake_seat_keeps (n : LineNo) (f : SeatFrame) (s : State) (i : SeatNo) :
    ((frameTake n f s).seat i).team = (s.seat i).team ∧ ((frameTake n f s).seat i).locked = (s.seat i).locked ∧
      ((frameTake n f s).seat i).lamp = (s.seat i).lamp := by
  rw [frameTake_seat]
  split <;> exact ⟨rfl, rfl, rfl⟩

theorem frameTake_line (n : LineNo) (f : SeatFrame) (s : State) (m : LineNo) :
    (frameTake n f s).line m = if m = n then (s.line n).take (s.rule Rule.holdLower) else s.line m := by
  rw [frameTake, updatePresence_eq]
  exact State.setLine_line s n m _

theorem Line.take_keeps (lower : Nat) (l : Line) :
    (l.take lower).queue = l.queue.tail ∧ (l.take lower).sending = l.sending := by
  unfold Line.take
  dsimp only
  split <;> exact ⟨rfl, rfl⟩

theorem frameTake_sending (n : LineNo) (f : SeatFrame) (s : State) (m : LineNo) :
    ((frameTake n f s).line m).sending = (s.line m).sending := by
  rw [frameTake_line]
  split
  · next h => rw [h]; exact (Line.take_keeps _ _).2
  · rfl

theorem frameTake_notice (n : LineNo) (f : SeatFrame) (s : State) {k : Notice} (h : k ≠ .seatChange) :
    (frameTake n f s).notice k = s.notice k := by
  rw [frameTake, updatePresence_eq]
  dsimp only [State.notice]
  split
  · rfl
  · exact State.setNotice_notice_of_ne h s

/-- A reading of the state that looks at none of them is unchanged. -/
theorem frameTake_view {α : Type} (view : State → α)
    (hview : ∀ y : State, view { y with lines := s.lines, seats := s.seats, notices := s.notices } = view y) :
    view (frameTake n f s) = view s :=
  (hview _).symm.trans (congrArg view (frameTake_rest n f s))

section
variable (n : LineNo) (f : SeatFrame) (s : State)

theorem frameTake_round : (frameTake n f s).round = s.round := frameTake_view State.round fun _ => rfl
theorem frameTake_clock : (frameTake n f s).clock = s.clock := frameTake_view State.clock fun _ => rfl
theorem frameTake_ladder : (frameTake n f s).ladder = s.ladder := frameTake_view State.ladder fun _ => rfl
theorem frameTake_team (y : TeamNo) : (frameTake n f s).team y = s.team y := frameTake_view (State.team · y) fun _ => rfl
theorem frameTake_entry (i : SeatNo) : (frameTake n f s).entry i = s.entry i :=
  frameTake_view (State.entry · i) fun _ => rfl
theorem frameTake_kind : (frameTake n f s).kind = s.kind := frameTake_view State.kind fun _ => rfl
theorem frameTake_copy : (frameTake n f s).copy = s.copy := frameTake_view State.copy fun _ => rfl
theorem frameTake_closeInstant : (frameTake n f s).closeInstant = s.closeInstant :=
  frameTake_view State.closeInstant fun _ => rfl
theorem frameTake_claimOf (y : TeamNo) : (frameTake n f s).claimOf y = s.claimOf y :=
  frameTake_view (State.claimOf · y) fun _ => rfl
theorem frameTake_calledClaim : (frameTake n f s).calledClaim = s.calledClaim :=
  frameTake_view State.calledClaim fun _ => rfl

theorem Unmoved.frameTake : Unmoved s (frameTake n f s) where
  ladder := frameTake_ladder n f s
  round := frameTake_round n f s
  clock := by rw [frameTake_clock]
  deadline := .inr (by rw [frameTake_clock])
  called := frameTake_notice n f s (by decide)
  seat i := by
    obtain ⟨hteam, -, hlamp⟩ := frameTake_seat_keeps n f s i
    exact ⟨hlamp, hteam⟩
  sending := frameTake_sending n f s
  enabled m := frameTake_view (State.lineEnabled · m) fun _ => rfl

end

/-! ## A take that hands nothing on -/

theorem Line.take_kick {l : Line} (h : l.sending = none → l.outboundCount = 0) (hqueue : l.queue = f :: rest) (lower : Nat) :
    (l.take lower).kick =
      (let taken : Line := { l with queue := rest }
      if taken.held = true ∧ rest.length ≤ lower then ({ taken with held := false, rehold := 0 } : Line).flowQueued .go
      else taken) := by
  obtain rfl : l.queue.tail = rest := by rw [hqueue]; rfl
  unfold Line.take
  dsimp only
  by_cases hfreed : l.held = true ∧ l.queue.tail.length ≤ lower
  · rw [if_pos hfreed, if_pos hfreed]
    exact Line.queueFlow_kick (l := { l with queue := l.queue.tail, held := false, rehold := 0 }) h .go
  · rw [if_neg hfreed, if_neg hfreed]
    exact Line.kick_of_busy (l := { l with queue := l.queue.tail }) h

/-- The take of a frame as an equation, when no block acts on it. -/
theorem frameTake_ended (hbusy : TransmittersBusy s) (hqueue : (s.line n).queue = f :: rest) :
    endEvent s (frameTake n f s) = frameTaken n f rest s := by
  have hline := Line.take_kick (hbusy n) hqueue (s.rule Rule.holdLower)
  have hkick : kickLines (s.setLine n ((s.line n).take (s.rule Rule.holdLower))) =
      s.setLine n ((s.line n).take (s.rule Rule.holdLower)).kick := kickLines_setLine hbusy n _
  rw [endEvent_of_round (frameTake_round n f s), frameTake, updatePresence_eq]
  have e := congrArg (fun y : State =>
    let v := f.present (s.rule Rule.silenceLimit) (s.seat f.seat)
    { y with seats := s.seats.set f.seat v
             notices := if v.presence = (s.seat f.seat).presence then s.notices else s.notices ||| 0x20#24 }) hkick
  refine Eq.trans e ?_
  rw [hline]
  rfl

end Sys2Proof.Machine
end

section
/-! PROOFS. Presses at the hand-off, the ladder and the sheet: which act, and which update presence alone (R29, R102,
R125). -/

namespace Sys2Proof.Machine

variable {s x : State} {n : LineNo} {f : SeatFrame} {rest : List SeatFrame} {t : TeamNo} {choices : Nat} {key : Option Nat}

/-! ## The hand-off (R29) -/

/-- A press that may be handed on: a round open or settling, and a seat of an ACTIVE team (R29). -/
structure Handed (f : SeatFrame) (t : TeamNo) (x : State) : Prop where
  press : f.kind = .press
  state : x.round.state = .opened ∨ x.round.state = .settling
  team : (x.seat f.seat).team = some t
  active : (x.team t).state = .active

theorem handPress_buzz (h : Handed f t x) (hkind : x.kind = some .buzz) (hkey : f.key = 0) :
    handPress f x = ladderPress t f x := by
  simp only [handPress, h.press, h.state, h.team, h.active, hkind, hkey, and_self, if_true]

theorem handPress_poll (h : Handed f t x) (hkind : x.kind = some (.poll choices key)) (hlow : 1 ≤ f.key) (hhigh : f.key ≤ 6) :
    handPress f x = sheetPress choices f x := by
  simp only [handPress, h.press, h.state, h.team, h.active, hkind, hlow, hhigh, and_self, if_true]

/-- What the hand-off can do with a frame: nothing, or hand it to the block of the round's kind. -/
theorem handPress_cases (f : SeatFrame) (x : State) :
    handPress f x = x ∨ ∃ t, Handed f t x ∧
      ((x.kind = some .buzz ∧ f.key = 0 ∧ handPress f x = ladderPress t f x) ∨
        ∃ choices key, x.kind = some (.poll choices key) ∧ 1 ≤ f.key ∧ f.key ≤ 6 ∧
          handPress f x = sheetPress choices f x) := by
  by_cases hpress : f.kind = .press ∧ (x.round.state = .opened ∨ x.round.state = .settling)
  · cases hteam : (x.seat f.seat).team with
    | none => left; simp only [handPress, hteam, ite_self]
    | some t =>
      by_cases hactive : (x.team t).state = .active
      · have h : Handed f t x := ⟨hpress.1, hpress.2, hteam, hactive⟩
        cases hkind : x.kind with
        | none => left; simp only [handPress, hteam, hkind, ite_self]
        | some kind =>
          cases kind with
          | buzz =>
            by_cases hkey : f.key = 0
            · exact .inr ⟨t, h, .inl ⟨rfl, hkey, handPress_buzz h hkind hkey⟩⟩
            · left; simp only [handPress, hteam, hkind, hkey, if_false, ite_self]
          | poll choices key =>
            by_cases hkey : 1 ≤ f.key ∧ f.key ≤ 6
            · exact .inr ⟨t, h, .inr ⟨choices, key, rfl, hkey.1, hkey.2, handPress_poll h hkind hkey.1 hkey.2⟩⟩
            · left; simp only [handPress, hteam, hkind, hkey, if_false, ite_self]
      · left; simp only [handPress, hteam, hactive, if_false, ite_self]
  · exact .inl (if_neg hpress)

/-- The take of a frame hands it on exactly when it was fit for it before. -/
theorem handed_frameTake : Handed f t (frameTake n f s) ↔ Handed f t s := by
  have hteam := (frameTake_seat_keeps n f s f.seat).1
  have hround := frameTake_round n f s
  have hrecord := frameTake_team n f s t
  constructor
  · rintro ⟨hpress, hstate, hbound, hactive⟩
    exact ⟨hpress, hround ▸ hstate, hteam ▸ hbound, hrecord ▸ hactive⟩
  · rintro ⟨hpress, hstate, hbound, hactive⟩
    exact ⟨hpress, hround.symm ▸ hstate, hteam.trans hbound, hrecord.symm ▸ hactive⟩

/-- A take that hands nothing on leaves presence, queue and flow state (R26, R28, R55). -/
theorem exec_take_of_idle (hpower : s.powered = true) (hbusy : TransmittersBusy s) (hqueue : (s.line n).queue = f :: rest)
    (hidle : handPress f (frameTake n f s) = frameTake n f s) :
    exec (.seatTableTake n) s = .next (frameTaken n f rest s) := by
  rw [exec_take hpower hqueue, hidle, frameTake_ended hbusy hqueue]

/-- Settles O34. -/
theorem takeUpdatesPresence : Obligations.TakeUpdatesPresence := by
  intro n f rest s hpower hbusy hqueue hcondition
  refine exec_take_of_idle hpower hbusy hqueue ?_
  rcases handPress_cases f (frameTake n f s) with hidle | ⟨t, hhanded, hacts⟩
  · exact hidle
  · obtain ⟨hpress, hstate, hteam, hactive⟩ := handed_frameTake.mp hhanded
    rw [frameTake_kind] at hacts
    exfalso
    rcases hcondition with h | ⟨hopened, hsettling⟩ | h | ⟨t', hbound, h⟩ | h | ⟨hbuzz, h⟩ | ⟨hpoll, h⟩
    · exact h hpress
    · exact hstate.elim hopened hsettling
    · rw [h] at hteam; cases hteam
    · rw [hbound] at hteam; cases hteam; exact h hactive
    · rcases hacts with ⟨-, hkey, -⟩ | ⟨-, -, -, -, hkey, -⟩ <;> omega
    · rcases hacts with ⟨-, hkey, -⟩ | ⟨_, _, hkind, -⟩
      · exact h hkey
      · rw [hbuzz] at hkind; cases hkind
    · rcases hacts with ⟨hkind, -⟩ | ⟨_, _, -, hkey, -⟩
      · exact hpoll hkind
      · omega

/-! ## The checks of the ladder (R102 to R105) -/

/-- A press that passes the ladder's first checks (R102): the team unlocked, its claim not CALLED, neither stale nor stopped. -/
structure Heard (f : SeatFrame) (t : TeamNo) (x : State) : Prop where
  unlocked : (x.team t).locked = false
  waiting : ∀ d, x.claimOf t = some d → d.called = false
  fresh : f.age ≠ 127
  moving : f.stopped = false

/-- An offset that a press may have: not above the close instant, nor above the count (R102, R125). -/
def InTime (offset : Nat) (x : State) : Prop := offset ≤ x.closeInstant ∧ offset ≤ x.clock.count

section
variable (h : Heard f t x)
include h

theorem Heard.ladderPress_eq : ladderPress t f x =
    if f.capture < f.age then (if x.copy.earlyPolicy = 1 then lockOutTeam t x else x)
    else if x.closeInstant < f.capture - f.age ∨ x.clock.count < f.capture - f.age then x
    else match x.claimOf t with
      | some c => if f.capture - f.age < c.offset then replaceClaim c f.seat (f.capture - f.age) x else x
      | none => insertClaim t f.seat (f.capture - f.age) x := by
  have hcalled : ¬ (x.claimOf t).any (·.called) = true := by
    cases hclaim : x.claimOf t with
    | none => exact Bool.false_ne_true
    | some d => rw [Option.any_some, h.waiting d hclaim]; exact Bool.false_ne_true
  have hstale : ¬ (f.age = 127 ∨ f.stopped = true) := by
    rw [h.moving]; exact fun e => e.elim h.fresh Bool.false_ne_true
  rw [ladderPress, if_neg (by rw [h.unlocked]; exact Bool.false_ne_true), if_neg hcalled, if_neg hstale]
    <;> rfl

theorem Heard.early (hearly : f.capture < f.age) (hlockout : x.copy.earlyPolicy = 1) :
    ladderPress t f x = lockOutTeam t x := by
  rw [h.ladderPress_eq, if_pos hearly, if_pos hlockout]

theorem Heard.inserted (hlate : f.age ≤ f.capture) (hin : InTime (f.capture - f.age) x) (hnone : x.claimOf t = none) :
    ladderPress t f x = insertClaim t f.seat (f.capture - f.age) x := by
  obtain ⟨hclose, hcount⟩ := hin
  rw [h.ladderPress_eq, if_neg (by omega), if_neg (by omega), hnone]

theorem Heard.replaced {d : Claim} (hlate : f.age ≤ f.capture) (hin : InTime (f.capture - f.age) x)
    (hclaim : x.claimOf t = some d) (hless : f.capture - f.age < d.offset) :
    ladderPress t f x = replaceClaim d f.seat (f.capture - f.age) x := by
  obtain ⟨hclose, hcount⟩ := hin
  rw [h.ladderPress_eq, if_neg (by omega), if_neg (by omega), hclaim]
  exact if_pos hless

end

/-- What the ladder can do with a press: nothing, or one of its three writes. -/
theorem ladderPress_cases (t : TeamNo) (f : SeatFrame) (x : State) :
    ladderPress t f x = x ∨ Heard f t x ∧
      ((f.capture < f.age ∧ x.copy.earlyPolicy = 1) ∨
        (f.age ≤ f.capture ∧ InTime (f.capture - f.age) x ∧
          ∀ d, x.claimOf t = some d → f.capture - f.age < d.offset)) := by
  by_cases hlocked : (x.team t).locked = true
  · left; exact if_pos hlocked
  by_cases hcalled : (x.claimOf t).any (·.called) = true
  · left; rw [ladderPress, if_neg hlocked, if_pos hcalled]
  by_cases hstale : f.age = 127 ∨ f.stopped = true
  · left; rw [ladderPress, if_neg hlocked, if_neg hcalled, if_pos hstale]
  have h : Heard f t x := by
    refine ⟨by simpa using hlocked, fun d hd => ?_, fun e => hstale (.inl e), ?_⟩
    · rw [hd, Option.any_some] at hcalled; simpa using hcalled
    · simpa using fun e => hstale (.inr e)
  have heq := h.ladderPress_eq
  by_cases hearly : f.capture < f.age
  · rw [if_pos hearly] at heq
    by_cases hlockout : x.copy.earlyPolicy = 1
    · exact .inr ⟨h, .inl ⟨hearly, hlockout⟩⟩
    · exact .inl (heq.trans (if_neg hlockout))
  · rw [if_neg hearly] at heq
    by_cases hlate : x.closeInstant < f.capture - f.age ∨ x.clock.count < f.capture - f.age
    · exact .inl (heq.trans (if_pos hlate))
    · rw [if_neg hlate] at heq
      have hin : InTime (f.capture - f.age) x := by unfold InTime; omega
      cases hclaim : x.claimOf t with
      | none => exact .inr ⟨h, .inr ⟨by omega, hin, fun d hd => nomatch hd⟩⟩
      | some d =>
        rw [hclaim] at heq
        by_cases hless : f.capture - f.age < d.offset
        · exact .inr ⟨h, .inr ⟨by omega, hin, fun d' hd => by cases hd; exact hless⟩⟩
        · exact .inl (heq.trans (if_neg hless))

/-! ## The checks of the sheet (R125 to R129) -/

/-- A press that passes the sheet's first checks (R125): the seat unlocked, a choice of the round, not stopped. -/
structure Answers (choices : Nat) (f : SeatFrame) (x : State) : Prop where
  unlocked : (x.seat f.seat).locked = false
  choice : f.key ≤ choices
  moving : f.stopped = false

section
variable (h : Answers choices f x)
include h

theorem Answers.sheetPress_eq : sheetPress choices f x =
    if f.age ≠ 127 ∧ f.capture < f.age then (if x.copy.earlyPolicy = 1 then lockOutSeat f.seat x else x)
    else if x.closeInstant < answerOffset f ∨ x.clock.count < answerOffset f then x
    else match x.entry f.seat with
      | none => storeAnswer f.seat (answerEntry f) x
      | some old =>
        if x.copy.answerLock = 1 ∧ old.offset < answerOffset f then storeAnswer f.seat (answerEntry f) x else x := by
  rw [sheetPress, if_neg (by rw [h.unlocked]; exact Bool.false_ne_true), if_neg (Nat.not_lt.mpr h.choice),
    if_neg (by rw [h.moving]; exact Bool.false_ne_true)] <;> rfl

theorem Answers.early (hfresh : f.age ≠ 127) (hearly : f.capture < f.age) (hlockout : x.copy.earlyPolicy = 1) :
    sheetPress choices f x = lockOutSeat f.seat x := by
  rw [h.sheetPress_eq, if_pos ⟨hfresh, hearly⟩, if_pos hlockout]

theorem Answers.inTime (hlate : f.age ≠ 127 → f.age ≤ f.capture) (hin : InTime (answerOffset f) x) :
    sheetPress choices f x = match x.entry f.seat with
      | none => storeAnswer f.seat (answerEntry f) x
      | some old =>
        if x.copy.answerLock = 1 ∧ old.offset < answerOffset f then storeAnswer f.seat (answerEntry f) x else x := by
  obtain ⟨hclose, hcount⟩ := hin
  rw [h.sheetPress_eq, if_neg fun e => absurd (hlate e.1) (Nat.not_le.mpr e.2), if_neg (by omega)]

end

/-- What the sheet can do with a press: nothing, or one of its two writes. -/
theorem sheetPress_cases (choices : Nat) (f : SeatFrame) (x : State) :
    sheetPress choices f x = x ∨ Answers choices f x ∧
      (((f.age ≠ 127 ∧ f.capture < f.age) ∧ x.copy.earlyPolicy = 1) ∨
        (¬ (f.age ≠ 127 ∧ f.capture < f.age) ∧ InTime (answerOffset f) x ∧
          ∀ old, x.entry f.seat = some old → x.copy.answerLock = 1 ∧ old.offset < answerOffset f)) := by
  by_cases hlocked : (x.seat f.seat).locked = true
  · left; exact if_pos hlocked
  by_cases hchoice : choices < f.key
  · left; rw [sheetPress, if_neg hlocked, if_pos hchoice]
  by_cases hstopped : f.stopped = true
  · left; rw [sheetPress, if_neg hlocked, if_neg hchoice, if_pos hstopped]
  have h : Answers choices f x := ⟨by simpa using hlocked, Nat.not_lt.mp hchoice, by simpa using hstopped⟩
  have heq := h.sheetPress_eq
  by_cases hearly : f.age ≠ 127 ∧ f.capture < f.age
  · rw [if_pos hearly] at heq
    by_cases hlockout : x.copy.earlyPolicy = 1
    · exact .inr ⟨h, .inl ⟨hearly, hlockout⟩⟩
    · exact .inl (heq.trans (if_neg hlockout))
  · rw [if_neg hearly] at heq
    by_cases hlate : x.closeInstant < answerOffset f ∨ x.clock.count < answerOffset f
    · exact .inl (heq.trans (if_pos hlate))
    · rw [if_neg hlate] at heq
      have hin : InTime (answerOffset f) x := by unfold InTime; omega
      cases hentry : x.entry f.seat with
      | none => exact .inr ⟨h, .inr ⟨hearly, hin, fun d hd => nomatch hd⟩⟩
      | some old =>
        rw [hentry] at heq
        by_cases hless : x.copy.answerLock = 1 ∧ old.offset < answerOffset f
        · exact .inr ⟨h, .inr ⟨hearly, hin, fun d' hd => by cases hd; exact hless⟩⟩
        · exact .inl (heq.trans (if_neg hless))

/-! ## Refused presses (R102, R103, R105, R125, R126, R128, R129) -/

/-- Settles O37. -/
theorem refusedPressesUpdatePresence : Obligations.RefusedPressesUpdatePresence := by
  refine ⟨fun n f rest t s hpower hbusy hqueue hkind hteam hcondition => ?ladder,
    fun n f rest choices key s hpower hbusy hqueue hkind => ?sheet⟩
  case ladder =>
    refine exec_take_of_idle hpower hbusy hqueue ?_
    rcases handPress_cases f (frameTake n f s) with hidle | ⟨t', hhanded, ⟨-, -, heq⟩ | ⟨_, _, hpoll, -⟩⟩
    · exact hidle
    · obtain rfl : t = t' := Option.some.inj (hteam.symm.trans (handed_frameTake.mp hhanded).team)
      refine heq.trans ((ladderPress_cases t f (frameTake n f s)).resolve_right ?_)
      rintro ⟨⟨hunlocked, hwaiting, hfresh, hmoving⟩, hacts⟩
      unfold InTime at hacts
      rw [frameTake_team] at hunlocked
      rw [frameTake_claimOf] at hwaiting hacts
      rw [frameTake_copy, frameTake_closeInstant, frameTake_clock] at hacts
      rcases hcondition with h | ⟨d, hclaim, h⟩ | h | h | ⟨hearly, h⟩ | ⟨hlate, h⟩ | ⟨d, hclaim, hlate, h⟩
      · rw [h] at hunlocked; cases hunlocked
      · rw [hwaiting d hclaim] at h; cases h
      · exact hfresh h
      · rw [h] at hmoving; cases hmoving
      · omega
      · omega
      · rcases hacts with ⟨hearly, -⟩ | ⟨-, -, hless⟩
        · omega
        · have := hless d hclaim; omega
    · rw [frameTake_kind, hkind] at hpoll; cases hpoll
  case sheet =>
    intro early offset hcondition
    refine exec_take_of_idle hpower hbusy hqueue ?_
    rcases handPress_cases f (frameTake n f s) with hidle | ⟨t', hhanded, ⟨hbuzz, -⟩ | ⟨choices', _, hpoll, -, -, heq⟩⟩
    · exact hidle
    · rw [frameTake_kind, hkind] at hbuzz; cases hbuzz
    · rw [frameTake_kind, hkind] at hpoll
      cases hpoll
      refine heq.trans ((sheetPress_cases choices f (frameTake n f s)).resolve_right ?_)
      rintro ⟨⟨hunlocked, hchoice, hmoving⟩, hacts⟩
      change (early ∧ _) ∨ (¬ early ∧ InTime offset _ ∧ ∀ old : SheetEntry, _ → _ ∧ old.offset < offset) at hacts
      unfold InTime at hacts
      rw [(frameTake_seat_keeps n f s f.seat).2.1] at hunlocked
      rw [frameTake_copy, frameTake_closeInstant, frameTake_clock, frameTake_entry] at hacts
      clear_value early offset
      rcases hcondition with h | h | h | ⟨hearly, h⟩ | ⟨hearly, h⟩ | ⟨old, hentry, hearly, h⟩
      · rw [h] at hunlocked; cases hunlocked
      · omega
      · rw [h] at hmoving; cases hmoving
      · rcases hacts with ⟨-, hlockout⟩ | ⟨hnot, -⟩
        · omega
        · exact hnot hearly
      · rcases hacts with ⟨h', -⟩ | ⟨-, hin, -⟩
        · exact hearly h'
        · omega
      · rcases hacts with ⟨h', -⟩ | ⟨-, -, hless⟩
        · exact hearly h'
        · have := hless old hentry; omega

end Sys2Proof.Machine
end

section
/-! PROOFS. Presses that the sheet acts on: an answer stored, a second answer, an early one under LOCKOUT (R126 to R129). -/

namespace Sys2Proof.Machine

variable {s v x : State} {n : LineNo} {f : SeatFrame} {rest : List SeatFrame} {t : TeamNo} {choices : Nat}
variable {key : Option Nat} {e : SheetEntry} {i : SeatNo}

/-! ## The sheet's writes -/

theorem storeAnswer_seat (i : SeatNo) (e : SheetEntry) (x : State) (j : SeatNo) :
    (storeAnswer i e x).seat j = if j = i then { x.seat i with lamp := .answered } else x.seat j :=
  lampWrite_seat (x.setEntry i (some e)) i .answered j

theorem storeAnswer_entry (i : SeatNo) (e : SheetEntry) (x : State) (j : SeatNo) :
    (storeAnswer i e x).entry j = if j = i then some e else x.entry j := by
  have h := congrArg (State.entry · j) (lampWrite_frame (x.setEntry i (some e)) i .answered)
  exact Eq.trans h (State.setEntry_entry x i j (some e))

theorem storeAnswer_rest (i : SeatNo) (e : SheetEntry) (x : State) :
    { storeAnswer i e x with lines := x.lines, seats := x.seats, sheet := x.sheet } = x := by
  have h := congrArg (fun y : State => { y with lines := x.lines, seats := x.seats, sheet := x.sheet })
    (lampWrite_frame (x.setEntry i (some e)) i .answered)
  exact h

theorem lockOutSeat_seat (i : SeatNo) (x : State) (j : SeatNo) :
    (lockOutSeat i x).seat j = if j = i then { x.seat i with locked := true, lamp := .locked } else x.seat j := by
  refine (lampWrite_seat ((x.setSeat i { x.seat i with locked := true }).setEntry i none) i .locked j).trans ?_
  rw [State.setEntry_seat, State.setEntry_seat, State.setSeat_seat_same, State.setSeat_seat]
  split <;> rfl

theorem lockOutSeat_entry (i : SeatNo) (x : State) (j : SeatNo) :
    (lockOutSeat i x).entry j = if j = i then none else x.entry j := by
  have h := congrArg (State.entry · j)
    (lampWrite_frame ((x.setSeat i { x.seat i with locked := true }).setEntry i none) i .locked)
  exact Eq.trans h (State.setEntry_entry (x.setSeat i { x.seat i with locked := true }) i j none)

theorem lockOutSeat_rest (i : SeatNo) (x : State) :
    { lockOutSeat i x with lines := x.lines, seats := x.seats, sheet := x.sheet } = x := by
  have h := congrArg (fun y : State => { y with lines := x.lines, seats := x.seats, sheet := x.sheet })
    (lampWrite_frame ((x.setSeat i { x.seat i with locked := true }).setEntry i none) i .locked)
  exact h

/-! ## The event of a press -/

/-- The end of a press's event, when the sheet has written. -/
theorem pressed_rest
    (h : { v with
      lines := (frameTake n f s).lines, seats := (frameTake n f s).seats, sheet := (frameTake n f s).sheet } =
        frameTake n f s) (before : State) :
    { endEvent before v with lines := s.lines, seats := s.seats, sheet := s.sheet, notices := s.notices } = s := by
  have hended := congrArg (fun y : State => { y with
    lines := s.lines, seats := s.seats, sheet := s.sheet, notices := s.notices }) (endEvent_frame before v)
  have hwritten := congrArg (fun y : State => { y with
    lines := s.lines, seats := s.seats, sheet := s.sheet, notices := s.notices }) h
  exact hended.trans (hwritten.trans (congrArg (fun y : State => { y with sheet := s.sheet }) (frameTake_rest n f s)))

/-- A press leaves the queue of its line, whatever its block does with it. -/
theorem pressed_queue (hqueue : (s.line n).queue = f :: rest) (before : State) :
    ((endEvent before (handPress f (frameTake n f s))).line n).queue = rest := by
  have hkeeps := ((handPress_writes f (frameTake n f s)).keeps.trans (endEvent_keeps before _)).receiving n
  have h := congrArg Line.queue hkeeps
  refine Eq.trans h ?_
  dsimp only
  rw [frameTake_line, if_pos rfl, (Line.take_keeps _ _).1, hqueue]
  rfl

theorem frameTake_seat_of_ne (h : i ≠ f.seat) : (frameTake n f s).seat i = s.seat i := by
  rw [frameTake_seat, if_neg h]

/-- The records of a seat whose answer has been stored, and of the others (R127, R129). -/
theorem answered_spec (before : State) :
    let w := endEvent before (storeAnswer f.seat e (frameTake n f s))
    w.entry f.seat = some e ∧ (w.seat f.seat).lamp = .answered ∧
      (∀ i, i ≠ f.seat → w.entry i = s.entry i ∧ w.seat i = s.seat i) ∧
      { w with lines := s.lines, seats := s.seats, sheet := s.sheet, notices := s.notices } = s := by
  intro w
  refine ⟨?_, ?_, fun i hi => ⟨?_, ?_⟩, pressed_rest (storeAnswer_rest _ _ _) before⟩
  · rw [endEvent_entry, storeAnswer_entry, if_pos rfl]
  · rw [endEvent_seat, storeAnswer_seat, if_pos rfl]
  · rw [endEvent_entry, storeAnswer_entry, if_neg hi, frameTake_entry]
  · rw [endEvent_seat, storeAnswer_seat, if_neg hi, frameTake_seat_of_ne hi]

/-- A press of a choice, handed to the sheet (R29). -/
structure Chosen (n : LineNo) (f : SeatFrame) (rest : List SeatFrame) (choices : Nat) (s : State) : Prop where
  power : s.powered = true
  queue : (s.line n).queue = f :: rest
  handed : ∃ t, Handed f t s
  kind : ∃ key, s.kind = some (.poll choices key)
  low : 1 ≤ f.key
  high : f.key ≤ 6
  answers : Answers choices f s

theorem Chosen.acts (h : Chosen n f rest choices s) :
    handPress f (frameTake n f s) = sheetPress choices f (frameTake n f s) := by
  obtain ⟨t, hhanded⟩ := h.handed
  obtain ⟨key, hkind⟩ := h.kind
  exact handPress_poll (handed_frameTake.mpr hhanded) (by rw [frameTake_kind]; exact hkind) h.low h.high

theorem Chosen.answers_frameTake (h : Chosen n f rest choices s) : Answers choices f (frameTake n f s) :=
  ⟨(frameTake_seat_keeps n f s f.seat).2.1.trans h.answers.unlocked, h.answers.choice, h.answers.moving⟩

theorem inTime_frameTake {offset : Nat} (h : InTime offset s) : InTime offset (frameTake n f s) := by
  unfold InTime
  rw [frameTake_closeInstant, frameTake_clock]
  exact h

/-- Settles O36. -/
theorem pollPressIsStored : Obligations.PollPressIsStored := by
  intro n f rest t choices key s hpower hqueue hpress hlow hchoice hhigh hstate hkind hteam hactive hunlocked hnone hmoving
    hlate offset hclose hcount
  have h : Chosen n f rest choices s :=
    ⟨hpower, hqueue, ⟨t, hpress, hstate, hteam, hactive⟩, ⟨key, hkind⟩, hlow, hhigh, hunlocked, hchoice, hmoving⟩
  have hstored : handPress f (frameTake n f s) = storeAnswer f.seat (answerEntry f) (frameTake n f s) := by
    rw [h.acts, h.answers_frameTake.inTime hlate (inTime_frameTake ⟨hclose, hcount⟩), frameTake_entry, hnone]
  have hrest := pressed_queue hqueue s
  rw [hstored] at hrest
  obtain ⟨hentry, hlamp, hothers, hframe⟩ := answered_spec (n := n) (f := f) (s := s) (e := answerEntry f) s
  exact ⟨_, (exec_take hpower hqueue).trans (by rw [hstored]), hentry, hlamp, hothers, hrest, hframe⟩

/-- A second answer in time: stored under LAST when its offset is greater, and otherwise the entry stays (R128, R129). -/
theorem Chosen.second {old : SheetEntry} (h : Chosen n f rest choices s) (hentry : s.entry f.seat = some old)
    (hlate : f.age ≠ 127 → f.age ≤ f.capture) (hin : InTime (answerOffset f) s) :
    ∃ w, exec (.seatTableTake n) s = .next w ∧
      w.entry f.seat = (if s.copy.answerLock = 1 ∧ old.offset < answerOffset f then some (answerEntry f) else some old) ∧
      (∀ i, i ≠ f.seat → w.entry i = s.entry i ∧ w.seat i = s.seat i) ∧
      { w with lines := s.lines, seats := s.seats, sheet := s.sheet, notices := s.notices } = s := by
  have heq := h.acts.trans (h.answers_frameTake.inTime hlate (inTime_frameTake hin))
  rw [frameTake_entry, hentry, frameTake_copy] at heq
  refine ⟨_, exec_take h.power h.queue, ?_⟩
  by_cases hlast : s.copy.answerLock = 1 ∧ old.offset < answerOffset f
  · replace heq := heq.trans (if_pos hlast)
    obtain ⟨hstored, -, hothers, hframe⟩ := answered_spec (n := n) (f := f) (s := s) (e := answerEntry f) s
    rw [heq, if_pos hlast]
    exact ⟨hstored, hothers, hframe⟩
  · replace heq := heq.trans (if_neg hlast)
    rw [heq, if_neg hlast]
    refine ⟨?_, fun i hi => ⟨?_, ?_⟩, pressed_rest rfl s⟩
    · rw [endEvent_entry, frameTake_entry, hentry]
    · rw [endEvent_entry, frameTake_entry]
    · rw [endEvent_seat, frameTake_seat_of_ne hi]

/-- An early answer under LOCKOUT: the seat locked, without an answer, its lamp LOCKED (R126). -/
theorem Chosen.lockedOut (h : Chosen n f rest choices s) (hfresh : f.age ≠ 127) (hearly : f.capture < f.age)
    (hlockout : s.copy.earlyPolicy = 1) :
    ∃ w, exec (.seatTableTake n) s = .next w ∧ w.entry f.seat = none ∧ (w.seat f.seat).locked = true ∧
      (w.seat f.seat).lamp = .locked ∧ (∀ i, i ≠ f.seat → w.entry i = s.entry i ∧ w.seat i = s.seat i) ∧
      { w with lines := s.lines, seats := s.seats, sheet := s.sheet, notices := s.notices } = s := by
  have heq := h.acts.trans (h.answers_frameTake.early hfresh hearly (by rw [frameTake_copy]; exact hlockout))
  refine ⟨_, exec_take h.power h.queue, ?_⟩
  rw [heq]
  refine ⟨?_, ?_, ?_, fun i hi => ⟨?_, ?_⟩, pressed_rest (lockOutSeat_rest _ _) s⟩
  · rw [endEvent_entry, lockOutSeat_entry, if_pos rfl]
  · rw [endEvent_seat, lockOutSeat_seat, if_pos rfl]
  · rw [endEvent_seat, lockOutSeat_seat, if_pos rfl]
  · rw [endEvent_entry, lockOutSeat_entry, if_neg hi, frameTake_entry]
  · rw [endEvent_seat, lockOutSeat_seat, if_neg hi, frameTake_seat_of_ne hi]

end Sys2Proof.Machine
end

section
/-! PROOFS. A claim that joins the ladder: a buzzer press inserted, a teammate's earlier press in place of the WAITING claim
(R104, R105, R108). -/

namespace Sys2Proof.Machine

variable {s v w x : State} {n : LineNo} {f : SeatFrame} {rest : List SeatFrame} {t : TeamNo} {made old : Claim}
variable {lamp : SeatNo → Lamp} {i : SeatNo} {offset : Nat}

/-! ## Re-arming with no call due -/

theorem calledClaim_isSome_iff_exists (x : State) : x.calledClaim.isSome = true ↔ ∃ d ∈ x.ladder, d.called = true := by
  rw [State.calledClaim, List.find?_isSome]

/-- Behind a CALLED claim, or before every claim's target, re-arming writes the call compare alone. -/
theorem rearmCall_of_quiet
    (h : v.calledClaim.isSome = true ∨ ∀ d ∈ v.ladder, v.clock.count < d.offset + v.copy.callSettle) :
    ∃ call, rearmCall v = { v with clock := { v.clock with call } } := by
  unfold rearmCall
  split
  · exact ⟨_, rfl⟩
  · next head rest hladder =>
    dsimp only
    split
    · exact ⟨_, rfl⟩
    · next hnone =>
      have hlater := h.resolve_left hnone head (by rw [hladder]; exact .head _)
      rw [if_neg (Nat.not_le.mpr hlater)]
      exact ⟨_, rfl⟩

/-! ## A claim in its place on the ladder -/

/-- A state whose ladder is that of `s` with the claim `made` in its place among the other teams' claims; beside it lines,
the seat's presence, lamps and notices may have changed. `lamp` is what the seats show. -/
structure ClaimPlaced (s v : State) (made : Claim) (lamp : SeatNo → Lamp) : Prop where
  ladder : v.ladder = placeClaim s.round.tieStart made (s.ladder.filter (·.team ≠ made.team))
  rest : { v with lines := s.lines, seats := s.seats, ladder := s.ladder, notices := s.notices } = s
  seat (i : SeatNo) (h : i ≠ made.seat) : v.seat i = { s.seat i with lamp := lamp i }
  bound (i : SeatNo) : (v.seat i).team = (s.seat i).team
  lamp (i : SeatNo) : (v.seat i).lamp = lamp i
  sending (n : LineNo) : (v.line n).sending = (s.line n).sending
  called : v.notice .claimCalled = s.notice .claimCalled

theorem ClaimPlaced.view (h : ClaimPlaced s v made lamp) {α : Type} (read : State → α)
    (hread : ∀ y : State,
      read { y with lines := s.lines, seats := s.seats, ladder := s.ladder, notices := s.notices } = read y) :
    read v = read s :=
  (hread v).symm.trans (congrArg read h.rest)

/-- The take of the frame, with the claim placed. -/
theorem ClaimPlaced.of_frameTake (hmade : made.seat = f.seat) :
    ClaimPlaced s { frameTake n f s with
      ladder := placeClaim s.round.tieStart made (s.ladder.filter (·.team ≠ made.team)) } made fun i => (s.seat i).lamp where
  ladder := rfl
  rest := by
    have e := congrArg (fun y : State => { y with ladder := s.ladder }) (frameTake_rest n f s); exact e
  seat i h := frameTake_seat_of_ne (hmade ▸ h)
  bound i := (frameTake_seat_keeps n f s i).1
  lamp i := (frameTake_seat_keeps n f s i).2.2
  sending := frameTake_sending n f s
  called := frameTake_notice n f s (by decide)

theorem ClaimPlaced.lampWrite (h : ClaimPlaced s v made lamp) (i : SeatNo) (value : Lamp) :
    ClaimPlaced s (lampWrite i value v) made fun j => if j = i then value else lamp j where
  ladder := by rw [lampWrite_ladder, h.ladder]
  rest := by
    have e := congrArg (fun y : State => { y with
      lines := s.lines, seats := s.seats, ladder := s.ladder, notices := s.notices }) (lampWrite_frame v i value)
    exact Eq.trans e h.rest
  seat j hj := by
    rw [lampWrite_seat]
    split
    · next e => rw [← e, h.seat j hj]
    · exact h.seat j hj
  bound j := by
    rw [lampWrite_seat]
    split
    · next e => rw [e]; exact h.bound i
    · exact h.bound j
  lamp j := by
    rw [lampWrite_seat]
    split
    · rfl
    · exact h.lamp j
  sending n := by rw [lampWrite_sending, h.sending]
  called := by rw [State.notice, lampWrite_notices]; exact h.called

section
variable (h : ClaimPlaced s v made lamp)
include h

theorem ClaimPlaced.count : v.clock.count = s.clock.count := h.view (·.clock.count) fun _ => rfl
theorem ClaimPlaced.copy : v.copy = s.copy := h.view State.copy fun _ => rfl
theorem ClaimPlaced.round : v.round = s.round := h.view State.round fun _ => rfl

/-- The ladder with the claim placed is about to re-arm its call. -/
theorem ClaimPlaced.rearming (hs : LadderInOrder s) (hwaiting : made.called = false)
    (hnone : ∀ d ∈ s.ladder, d.team = made.team → d.called = false) (hstands : made.Stands s) (hkind : s.kind = some .buzz)
    (hstate : s.round.state = .opened ∨ s.round.state = .settling) : Rearming s v lamp := by
  have hclock : v.clock = s.clock := h.view State.clock fun _ => rfl
  refine ⟨?_, h.round, by rw [hclock], .inr (by rw [hclock]), h.called, h.lamp, h.sending, fun n => ?_⟩
  · exact hs.ready_of_joined h.ladder hwaiting hnone hstands hkind hstate h.round
      (fun y => h.view (fun z => (z.team y).state) fun _ => rfl) h.bound (by rw [hclock])
  · exact h.view (State.lineEnabled · n) fun _ => rfl

/-- The claim has joined the ladder when the event has ended (R98, R104, R105, R108). -/
theorem ClaimPlaced.joined (hr : Rearming s v lamp) : LadderJoined s (endEvent s (rearmCall v)) made lamp := by
  obtain ⟨k, hk, hplaced⟩ := placeClaim_eq s.round.tieStart made (s.ladder.filter (·.team ≠ made.team))
  have hladder := h.ladder.trans hplaced
  have horder := hr.ready.order
  have hserved := hr.served.ended s
  rw [hladder] at horder hserved
  rw [h.round] at horder
  exact ⟨k, hk, horder, hserved⟩

/-- With no call due the claim stands on the ladder WAITING, and re-arming writes no seat (R72). -/
theorem ClaimPlaced.quiet (hnone : ∀ d ∈ s.ladder, d.team = made.team → d.called = false)
    (hquiet : s.calledClaim.isSome = true ∨ (s.clock.count < made.offset + s.copy.callSettle ∧
      ∀ d ∈ s.ladder, s.clock.count < d.offset + s.copy.callSettle)) :
    made ∈ (endEvent s (rearmCall v)).ladder ∧
      (endEvent s (rearmCall v)).ladder.filter (·.team ≠ made.team) = s.ladder.filter (·.team ≠ made.team) ∧
      ∀ i, (endEvent s (rearmCall v)).seat i = v.seat i := by
  have hothers : ∀ d ∈ s.ladder.filter (·.team ≠ made.team), d.team ≠ made.team := fun d hd => by
    simpa using (List.mem_filter.mp hd).2
  have hmem (d : Claim) : d ∈ v.ladder ↔ d = made ∨ d ∈ s.ladder.filter (·.team ≠ made.team) := by
    rw [h.ladder, mem_placeClaim]
  obtain ⟨call, hcall⟩ : ∃ call, rearmCall v = { v with clock := { v.clock with call } } := by
    refine rearmCall_of_quiet (hquiet.imp (fun hcalled => ?_) fun ⟨hmade, hlater⟩ d hd => ?_)
    · obtain ⟨d, hd, hdcalled⟩ := (calledClaim_isSome_iff_exists s).mp hcalled
      refine (calledClaim_isSome_iff_exists v).mpr ⟨d, (hmem d).mpr (.inr (List.mem_filter.mpr ⟨hd, ?_⟩)), hdcalled⟩
      have hteam : d.team ≠ made.team := fun e => by rw [hnone d hd e] at hdcalled; cases hdcalled
      simpa using hteam
    · rw [h.count, h.copy]
      rcases (hmem d).mp hd with rfl | hd
      · exact hmade
      · exact hlater d (List.mem_filter.mp hd).1
  rw [endEvent_ladder, hcall]
  dsimp only
  refine ⟨(hmem made).mpr (.inl rfl), ?_, fun i => ?_⟩
  · rw [h.ladder, placeClaim_filter hothers]
  · rw [endEvent_seat]; rfl

/-- Seats other than the claim's keep all but their lamps. -/
theorem ClaimPlaced.ended_seat (hi : i ≠ made.seat) :
    { (endEvent s (rearmCall v)).seat i with lamp := .idle } = { s.seat i with lamp := .idle } := by
  obtain ⟨value, hvalue⟩ := rearmCall_seat v i
  rw [endEvent_seat, hvalue, h.seat i hi]

/-- Nothing but lines, seats, ladder, clock and notices is written. -/
theorem ClaimPlaced.ended_rest :
    { endEvent s (rearmCall v) with
      lines := s.lines, seats := s.seats, ladder := s.ladder, clock := s.clock, notices := s.notices } = s := by
  have hended := congrArg (fun y : State => { y with
    lines := s.lines, seats := s.seats, ladder := s.ladder, clock := s.clock, notices := s.notices })
    (endEvent_frame s (rearmCall v))
  have hcall := congrArg (fun y : State => { y with
    lines := s.lines, seats := s.seats, ladder := s.ladder, clock := s.clock, notices := s.notices }) (rearmCall_outside v)
  exact hended.trans (hcall.trans (congrArg (fun y : State => { y with clock := s.clock }) h.rest))

end

/-! ## The claim of a press (R104, R105) -/

/-- The claim that a buzzer press makes. -/
def pressClaim (t : TeamNo) (f : SeatFrame) (s : State) : Claim :=
  { team := t, seat := f.seat, offset := f.capture - f.age, called := false, overtaken := s.overtakes (f.capture - f.age) }

theorem frameTake_overtakes (n : LineNo) (f : SeatFrame) (s : State) (offset : Nat) :
    (frameTake n f s).overtakes offset = s.overtakes offset := frameTake_view (State.overtakes · offset) fun _ => rfl

theorem placedLadder (ladder : List Claim) :
    placeClaim (frameTake n f s).round.tieStart
      { team := t, seat := f.seat, offset := f.capture - f.age, called := false
        overtaken := (frameTake n f s).overtakes (f.capture - f.age) } ladder =
    placeClaim s.round.tieStart (pressClaim t f s) ladder := by
  rw [frameTake_overtakes, frameTake_round]; rfl

/-- A press with no claim of its team on the ladder is placed among the claims that stood (R104). -/
theorem insertClaim_placed (hnone : s.claimOf t = none) :
    ∃ v, insertClaim t f.seat (f.capture - f.age) (frameTake n f s) = rearmCall v ∧
      ClaimPlaced s v (pressClaim t f s) fun i => if i = f.seat then .wait else (s.seat i).lamp := by
  have hfilter : s.ladder.filter (·.team ≠ t) = s.ladder :=
    List.filter_eq_self.mpr fun d hd => by simpa using claimOf_eq_none.mp hnone d hd
  refine ⟨_, ?_, (ClaimPlaced.of_frameTake (n := n) (made := pressClaim t f s) rfl).lampWrite f.seat .wait⟩
  have hstood := (frameTake_ladder n f s).trans hfilter.symm
  have hladder := (placedLadder (n := n) (f := f) (s := s) (t := t) (frameTake n f s).ladder).trans
    (congrArg (placeClaim _ _) hstood)
  exact congrArg (fun ladder => rearmCall (lampWrite f.seat .wait { frameTake n f s with ladder })) hladder

theorem replaceClaim_eq (old : Claim) (i : SeatNo) (offset : Nat) (x : State) :
    replaceClaim old i offset x =
      (let placed := { x with
        ladder := placeClaim x.round.tieStart
          { team := old.team, seat := i, offset, called := false, overtaken := x.overtakes offset }
          (x.ladder.filter (·.team ≠ old.team)) }
      rearmCall (lampWrite i .wait (if old.seat = i then placed else lampWrite old.seat .idle placed))) := rfl

/-- A teammate's press is placed instead of its team's claim, whose seat's lamp goes out (R105). -/
theorem replaceClaim_placed (hold : old.team = t) :
    ∃ v, replaceClaim old f.seat (f.capture - f.age) (frameTake n f s) = rearmCall v ∧
      ClaimPlaced s v (pressClaim t f s) fun i =>
        if i = f.seat then .wait else if i = old.seat then .idle else (s.seat i).lamp := by
  subst hold
  have hplaced := ClaimPlaced.of_frameTake (n := n) (s := s) (made := pressClaim old.team f s) rfl
  have hladder := placedLadder (n := n) (f := f) (s := s) (t := old.team) (s.ladder.filter (·.team ≠ old.team))
  rw [replaceClaim_eq, frameTake_ladder, hladder]
  dsimp only
  by_cases hseat : old.seat = f.seat
  · rw [if_pos hseat]
    refine ⟨_, rfl, ?_⟩
    have hlamp : (fun i => if i = f.seat then Lamp.wait else if i = old.seat then .idle else (s.seat i).lamp) =
        fun i => if i = f.seat then Lamp.wait else (s.seat i).lamp := by
      funext i
      rw [hseat]
      split <;> rfl
    rw [hlamp]
    exact hplaced.lampWrite f.seat .wait
  · rw [if_neg hseat]
    exact ⟨_, rfl, (hplaced.lampWrite old.seat .idle).lampWrite f.seat .wait⟩

/-! ## Buzzer presses that the ladder admits -/

/-- A buzzer press handed to the ladder, past its first checks (R29, R102). -/
structure Buzzed (n : LineNo) (f : SeatFrame) (rest : List SeatFrame) (t : TeamNo) (s : State) : Prop where
  power : s.powered = true
  queue : (s.line n).queue = f :: rest
  handed : Handed f t s
  kind : s.kind = some .buzz
  buzzer : f.key = 0
  heard : Heard f t s

theorem Heard.frameTake (h : Heard f t s) : Heard f t (frameTake n f s) := by
  obtain ⟨hunlocked, hwaiting, hfresh, hmoving⟩ := h
  exact ⟨by rw [frameTake_team]; exact hunlocked, fun d hd => hwaiting d (frameTake_claimOf n f s t ▸ hd), hfresh, hmoving⟩

theorem Buzzed.acts (h : Buzzed n f rest t s) : handPress f (frameTake n f s) = ladderPress t f (frameTake n f s) :=
  handPress_buzz (handed_frameTake.mpr h.handed) (by rw [frameTake_kind]; exact h.kind) h.buzzer

theorem Buzzed.stands (h : Buzzed n f rest t s) : (pressClaim t f s).Stands s := ⟨h.handed.active, h.handed.team⟩

/-- On a ladder in order a team's one claim tells for all of them. -/
theorem LadderInOrder.waiting (hs : LadderInOrder s) (hold : s.claimOf t = some old) (hwaiting : old.called = false) :
    ∀ d ∈ s.ladder, d.team = t → d.called = false := fun d hd hteam => by
  obtain ⟨hmem, holdteam⟩ := claimOf_eq_some hold
  rw [hs.ready.order.eq_of_team hd hmem (hteam.trans holdteam.symm)]
  exact hwaiting

/-- Settles O35. -/
theorem buzzPressIsInserted : Obligations.BuzzPressIsInserted := by
  intro n f rest t s hpower hqueue hpress hkey hstate hkind hteam hactive hunlocked hnone hmoving hfresh hlate hclose hcount
    made
  have hmade : made = pressClaim t f s := rfl
  clear_value made
  subst hmade
  have h : Buzzed n f rest t s := ⟨hpower, hqueue, ⟨hpress, hstate, hteam, hactive⟩, hkind, hkey,
    hunlocked, fun d hd => absurd (hnone.symm.trans hd) (Option.some_ne_none d).symm, hfresh, hmoving⟩
  have hclaims : ∀ d ∈ s.ladder, d.team ≠ t := claimOf_eq_none.mp hnone
  have hfilter : s.ladder.filter (·.team ≠ t) = s.ladder :=
    List.filter_eq_self.mpr fun d hd => by simpa using hclaims d hd
  have hwaiting : ∀ d ∈ s.ladder, d.team = (pressClaim t f s).team → d.called = false :=
    fun d hd e => absurd e (hclaims d hd)
  obtain ⟨v, hinsert, hplaced⟩ := insertClaim_placed (n := n) (f := f) hnone
  have hacts : handPress f (frameTake n f s) = rearmCall v := by
    rw [h.acts, h.heard.frameTake.inserted hlate (inTime_frameTake ⟨hclose, hcount⟩)
      ((frameTake_claimOf n f s t).trans hnone), hinsert]
  have hexec := (exec_take hpower hqueue).trans (congrArg (fun y => Host.Outcome.next (endEvent s y)) hacts)
  have hrest := pressed_queue hqueue s
  have hpresence := ((handPress_writes f (frameTake n f s)).keeps.trans (endEvent_keeps s _)).presence f.seat
  rw [frameTake_seat, if_pos rfl] at hpresence
  rw [hacts] at hrest hpresence
  refine ⟨_, hexec, fun hs => ?_, fun hquiet => ?_, fun i hi => hplaced.ended_seat hi, ?_, hrest, hplaced.ended_rest⟩
  · exact hplaced.joined (hplaced.rearming hs rfl hwaiting h.stands hkind hstate)
  · obtain ⟨hmem, hothers, hseats⟩ := hplaced.quiet hwaiting hquiet
    refine ⟨hmem, hothers.trans hfilter, ?_, fun i hi => ?_⟩
    · rw [hseats, hplaced.lamp, if_pos rfl]
    · rw [hseats, hplaced.seat i hi, if_neg hi]
  · exact hpresence.trans (if_neg (by rw [hpress]; decide))

end Sys2Proof.Machine
end

section
/-! PROOFS. Second and early presses: the WAITING claim replaced, the team locked out, the answer replaced, the seat locked
out (R103, R105, R126, R128, R129). -/

namespace Sys2Proof.Machine

variable {s v w x : State} {n : LineNo} {f : SeatFrame} {rest : List SeatFrame} {t : TeamNo} {old : Claim}

/-! ## A claim replaced (R105) -/

/-- A teammate's press with a smaller offset takes the place of the team's WAITING claim. -/
theorem Buzzed.replaces (h : Buzzed n f rest t s) (hs : LadderInOrder s) (hold : s.claimOf t = some old)
    (hwaiting : old.called = false) (hlate : f.age ≤ f.capture) (hless : f.capture - f.age < old.offset)
    (hin : InTime (f.capture - f.age) s) :
    ∃ w, exec (.seatTableTake n) s = .next w ∧
      LadderJoined s w (pressClaim t f s) (fun i =>
        if i = f.seat then .wait else if i = old.seat then .idle else (s.seat i).lamp) ∧
      (s.calledClaim.isSome ∨ (s.clock.count < f.capture - f.age + s.copy.callSettle ∧
          ∀ d ∈ s.ladder, s.clock.count < d.offset + s.copy.callSettle) →
        pressClaim t f s ∈ w.ladder ∧ w.ladder.filter (·.team ≠ t) = s.ladder.filter (·.team ≠ t) ∧
          (w.seat f.seat).lamp = .wait ∧ (old.seat ≠ f.seat → (w.seat old.seat).lamp = .idle) ∧
          (∀ i, i ≠ f.seat → i ≠ old.seat → w.seat i = s.seat i)) ∧
      (∀ i, i ≠ f.seat → { w.seat i with lamp := .idle } = { s.seat i with lamp := .idle }) ∧
      { w with lines := s.lines, seats := s.seats, ladder := s.ladder, clock := s.clock, notices := s.notices } = s := by
  obtain ⟨v, hreplace, hplaced⟩ := replaceClaim_placed (n := n) (f := f) (s := s) (claimOf_eq_some hold).2
  have hacts : handPress f (frameTake n f s) = rearmCall v := by
    rw [h.acts, h.heard.frameTake.replaced hlate (inTime_frameTake hin) ((frameTake_claimOf n f s t).trans hold) hless,
      hreplace]
  have hexec := (exec_take h.power h.queue).trans (congrArg (fun y => Host.Outcome.next (endEvent s y)) hacts)
  have hclaims : ∀ d ∈ s.ladder, d.team = (pressClaim t f s).team → d.called = false := hs.waiting hold hwaiting
  refine ⟨_, hexec, hplaced.joined (hplaced.rearming hs rfl hclaims h.stands h.kind h.handed.state), fun hquiet => ?_,
    fun i hi => hplaced.ended_seat hi, hplaced.ended_rest⟩
  obtain ⟨hmem, hothers, hseats⟩ := hplaced.quiet hclaims hquiet
  refine ⟨hmem, hothers, ?_, fun hne => ?_, fun i hi hiold => ?_⟩
  · rw [hseats, hplaced.lamp, if_pos rfl]
  · rw [hseats, hplaced.lamp, if_neg hne, if_pos rfl]
  · rw [hseats, hplaced.seat i hi, if_neg hi, if_neg hiold]

/-! ## A team locked out (R103) -/

/-- The lamps of a lockout. -/
def lockedOutLamp (t : TeamNo) (x : State) (i : SeatNo) : Option Lamp :=
  if (x.seat i).team = some t then some .locked else none

theorem lockOutTeam_of_none (h : x.claimOf t = none) :
    lockOutTeam t x = lampWrites (lockedOutLamp t x) (lockTeam t x) := by
  unfold lockOutTeam
  rw [h]
  rfl

/-- The ladder of a lockout before the call is re-armed: the team locked, its claim gone. -/
def lockedOut (t : TeamNo) (x : State) : State := { lockTeam t x with ladder := x.ladder.filter (·.team ≠ t) }

theorem lockOutTeam_of_some (h : x.claimOf t = some old) :
    lockOutTeam t x = lampWrites (lockedOutLamp t x) (rearmCall (lockedOut t x)) := by
  unfold lockOutTeam
  rw [h]
  rfl

/-- Lamps alone are no word to the ladder. -/
theorem lampWrites_relit (value : SeatNo → Option Lamp) (x : State) : Relit value x (lampWrites value x) := by
  have hframe := lampWrites_frame x value
  refine ⟨?_, ?_, ?_, ?_, ?_, fun y hy => ?_, fun i hi => ?_, lampWrites_sending value x, fun n => ?_, fun i => ?_⟩
  · have e := congrArg State.ladder hframe; exact e
  · have e := congrArg State.round hframe; exact e
  · have e := congrArg State.clock hframe; exact e
  · have e := congrArg (State.notice · .claimCalled) hframe; exact e
  · have e := congrArg (State.notice · .roundClosed) hframe; exact e
  · rw [State.team_of_lamps hframe]; exact hy
  · rw [lampWrites_seat]; exact hi
  · have e := congrArg (State.lineEnabled · n) hframe; exact e
  · rw [lampWrites_seat]

/-- What every lockout of a team writes: beside lines, seats, ladder, clock and notices, the team's lock alone. -/
theorem lockTeam_rest (hv : v.outsideCall = (lockTeam t (frameTake n f s)).outsideCall) (value : SeatNo → Option Lamp) :
    { endEvent s (lampWrites value v) with
      lines := s.lines, seats := s.seats, ladder := s.ladder, clock := s.clock, notices := s.notices } = lockTeam t s := by
  have hended := congrArg (fun y : State => { y with
    lines := s.lines, seats := s.seats, ladder := s.ladder, clock := s.clock, notices := s.notices })
    (endEvent_frame s (lampWrites value v))
  have hlamps := congrArg (fun y : State => { y with
    lines := s.lines, seats := s.seats, ladder := s.ladder, clock := s.clock, notices := s.notices })
    (lampWrites_frame v value)
  have hcall := congrArg (fun y : State => { y with
    lines := s.lines, seats := s.seats, ladder := s.ladder, clock := s.clock, notices := s.notices }) hv
  have htake := congrArg (fun y : State => { lockTeam t y with ladder := s.ladder, clock := s.clock })
    (frameTake_rest n f s)
  exact hended.trans (hlamps.trans (hcall.trans htake))

theorem lockTeam_team_same (t : TeamNo) (s : State) : (lockTeam t s).team t = { s.team t with locked := true } := by
  rw [lockTeam, State.setTeam_team, if_pos rfl]

/-- A lockout of a team with no claim (R103). -/
theorem Buzzed.locksOut (h : Buzzed n f rest t s) (hnone : s.claimOf t = none) (hearly : f.capture < f.age)
    (hlockout : s.copy.earlyPolicy = 1) :
    ∃ w, exec (.seatTableTake n) s = .next w ∧ w.team t = { s.team t with locked := true } ∧
      (∀ i, if (s.seat i).team = some t then (w.seat i).lamp = .locked else w.seat i = s.seat i) ∧
      { w with lines := s.lines, seats := s.seats, notices := s.notices } =
        s.setTeam t { s.team t with locked := true } := by
  have hacts : handPress f (frameTake n f s) =
      lampWrites (lockedOutLamp t (frameTake n f s)) (lockTeam t (frameTake n f s)) := by
    rw [h.acts, h.heard.frameTake.early hearly ((congrArg _ (frameTake_copy n f s)).trans hlockout),
      lockOutTeam_of_none ((frameTake_claimOf n f s t).trans hnone)]
  have hexec := (exec_take h.power h.queue).trans (congrArg (fun y => Host.Outcome.next (endEvent s y)) hacts)
  have hrest := lockTeam_rest (n := n) (f := f) (s := s) (t := t) (v := lockTeam t (frameTake n f s)) rfl
    (lockedOutLamp t (frameTake n f s))
  have hrelit := lampWrites_relit (lockedOutLamp t (frameTake n f s)) (lockTeam t (frameTake n f s))
  have hladder : (endEvent s (lampWrites (lockedOutLamp t (frameTake n f s)) (lockTeam t (frameTake n f s)))).ladder =
      s.ladder := by rw [endEvent_ladder, hrelit.ladder]; exact frameTake_ladder n f s
  have hclock : (endEvent s (lampWrites (lockedOutLamp t (frameTake n f s)) (lockTeam t (frameTake n f s)))).clock =
      s.clock := by rw [endEvent_clock, hrelit.clock]; exact frameTake_clock n f s
  have hseat (i : SeatNo) : (endEvent s (lampWrites (lockedOutLamp t (frameTake n f s))
      (lockTeam t (frameTake n f s)))).seat i = { (frameTake n f s).seat i with
        lamp := if (s.seat i).team = some t then .locked else (s.seat i).lamp } := by
    obtain ⟨hteam, -, hlamp⟩ := frameTake_seat_keeps n f s i
    rw [endEvent_seat, lampWrites_seat, lockTeam, State.setTeam_seat, lockedOutLamp, hteam, hlamp]
    split <;> rfl
  generalize endEvent s (lampWrites (lockedOutLamp t (frameTake n f s)) (lockTeam t (frameTake n f s))) = w at *
  refine ⟨w, hexec, ?_, fun i => ?_, ?_⟩
  · have e := congrArg (State.team · t) hrest
    exact Eq.trans e (lockTeam_team_same t s)
  · rw [hseat]
    split
    · rfl
    · next hi => rw [frameTake_seat_of_ne fun e : i = f.seat => hi (e ▸ h.handed.team)]
  · rw [← hladder, ← hclock] at hrest
    exact hrest

/-- The ladder of a lockout is about to go on without the team's claim. -/
theorem lockedOut_rearming (hs : LadderInOrder s) (hold : s.claimOf t = some old) (hwaiting : old.called = false) :
    Rearming s (lockedOut t (frameTake n f s)) fun i => (s.seat i).lamp := by
  obtain ⟨hmem, rfl⟩ := claimOf_eq_some hold
  have htaken := Unmoved.frameTake n f s
  refine ⟨?_, htaken.round, htaken.clock, htaken.deadline, htaken.called, fun i => (htaken.seat i).1, htaken.sending,
    htaken.enabled⟩
  refine hs.ready_of_removed hmem (congrArg (List.filter _) (frameTake_ladder n f s)) htaken.round (fun y hy => ?_)
    (fun i y _ hi => (htaken.seat i).2.trans hi) ?_
  · have e : (lockTeam old.team (frameTake n f s)).team y = s.team y := by
      rw [lockTeam, State.setTeam_team, if_neg hy, frameTake_team]
    exact congrArg Team.state e
  · rw [hwaiting]
    exact congrArg Clock.judgeDeadline (frameTake_clock n f s)

/-- A lockout of a team with a WAITING claim: the claim leaves with no notice and the ladder goes on (R103). -/
theorem Buzzed.locksOutClaim (h : Buzzed n f rest t s) (hs : LadderInOrder s) (hold : s.claimOf t = some old)
    (hwaiting : old.called = false) (hearly : f.capture < f.age) (hlockout : s.copy.earlyPolicy = 1) :
    ∃ w, exec (.seatTableTake n) s = .next w ∧ w.team t = { s.team t with locked := true } ∧
      LadderWentOn s w old (fun i => if (s.seat i).team = some t then .locked else (s.seat i).lamp) ∧
      w.notice .claimCancelled = s.notice .claimCancelled ∧
      { w with lines := s.lines, seats := s.seats, ladder := s.ladder, clock := s.clock, notices := s.notices } =
        s.setTeam t { s.team t with locked := true } := by
  obtain ⟨-, holdteam⟩ := claimOf_eq_some hold
  generalize hvalue : lockedOutLamp t (frameTake n f s) = value
  have hlamp (i : SeatNo) : value i = if (s.seat i).team = some t then some .locked else none := by
    rw [← hvalue, lockedOutLamp, (frameTake_seat_keeps n f s i).1]
  have hacts : handPress f (frameTake n f s) = lampWrites value (rearmCall (lockedOut t (frameTake n f s))) := by
    rw [h.acts, h.heard.frameTake.early hearly ((congrArg _ (frameTake_copy n f s)).trans hlockout),
      lockOutTeam_of_some ((frameTake_claimOf n f s t).trans hold), hvalue]
  have hexec := (exec_take h.power h.queue).trans (congrArg (fun y => Host.Outcome.next (endEvent s y)) hacts)
  have hrest := lockTeam_rest (n := n) (f := f) (s := s) (t := t) (v := rearmCall (lockedOut t (frameTake n f s)))
    (rearmCall_outside _) value
  have hrearming := lockedOut_rearming (n := n) (f := f) hs hold hwaiting
  have hopen : s.round.state ≠ .draining := by rcases h.handed.state with e | e <;> rw [e] <;> decide
  have hgoes : LadderGoes s (rearmCall (lockedOut t (frameTake n f s))) old fun i => (s.seat i).lamp := by
    rw [← ladderGoesOn_of_rearm (.inr (by rw [hrearming.round]; exact hopen))]
    exact hrearming.goes (by rw [holdteam]; exact congrArg (List.filter _) (frameTake_ladder n f s))
  have hlamps : (fun i => (value i).getD (s.seat i).lamp) =
      fun i => if (s.seat i).team = some t then .locked else (s.seat i).lamp := by
    funext i
    rw [hlamp]
    split <;> rfl
  have hwent := (hgoes.relit (lampWrites_relit value _) fun d hd hteam => (hlamp _).trans (if_neg fun e => hteam ?_)).wentOn
  · rw [hlamps] at hwent
    have hnotice : (endEvent s (lampWrites value (rearmCall (lockedOut t (frameTake n f s))))).notice .claimCancelled =
        s.notice .claimCancelled := by
      have e := congrArg (State.notice · .claimCancelled)
        (lampWrites_frame (rearmCall (lockedOut t (frameTake n f s))) value)
      rw [State.notice, endEvent_notices]
      refine Eq.trans e ((rearmCall_notice (by decide) _).trans ?_)
      exact frameTake_notice n f s (by decide)
    generalize endEvent s (lampWrites value (rearmCall (lockedOut t (frameTake n f s)))) = w at *
    refine ⟨w, hexec, ?_, hwent, hnotice, hrest⟩
    have e := congrArg (State.team · t) hrest
    exact Eq.trans e (lockTeam_team_same t s)
  · rw [(hs.ready.stands d hd).2] at e
    rw [holdteam]
    exact Option.some.inj e

/-- Settles O38. -/
theorem secondAndEarlyPressesAct : Obligations.SecondAndEarlyPressesAct := by
  refine ⟨fun n f rest t old s hpower hqueue hpress hkey hstate hkind hteam hactive hunlocked hmoving hfresh hs => ?ladder,
    fun n f rest t choices key old s hpower hqueue hpress hlow hchoice hhigh hstate hkind hteam hactive hunlocked
      hmoving => ?sheet⟩
  case ladder =>
    have h (hwaiting : ∀ d, s.claimOf t = some d → d.called = false) : Buzzed n f rest t s :=
      ⟨hpower, hqueue, ⟨hpress, hstate, hteam, hactive⟩, hkind, hkey, hunlocked, hwaiting, hfresh, hmoving⟩
    have hown (hold : s.claimOf t = some old) (hwaiting : old.called = false) : Buzzed n f rest t s :=
      h fun d hd => by rw [← Option.some.inj (hold.symm.trans hd)]; exact hwaiting
    refine ⟨fun hold hwaiting hlate hless hclose hcount => ?replaced, fun hnone hearly hlockout => ?locked,
      fun hold hwaiting hearly hlockout => (hown hold hwaiting).locksOutClaim hs hold hwaiting hearly hlockout⟩
    case replaced =>
      intro made
      have hmade : made = pressClaim t f s := rfl
      clear_value made
      subst hmade
      exact (hown hold hwaiting).replaces hs hold hwaiting hlate hless ⟨hclose, hcount⟩
    case locked =>
      have hbuzzed := h fun d hd => absurd (hnone.symm.trans hd) (Option.some_ne_none d).symm
      exact hbuzzed.locksOut hnone hearly hlockout
  case sheet =>
    have h : Chosen n f rest choices s :=
      ⟨hpower, hqueue, ⟨t, hpress, hstate, hteam, hactive⟩, ⟨key, hkind⟩, hlow, hhigh, hunlocked, hchoice, hmoving⟩
    exact ⟨fun hentry hlate hclose hcount => h.second hentry hlate ⟨hclose, hcount⟩,
      fun hfresh hearly hlockout => h.lockedOut hfresh hearly hlockout⟩

end Sys2Proof.Machine
end
